-- ==== Sys2Proof/Word.lean ====
section
/-! DEFINITION. The widths of the block's data (00_scope.md R7, R8): plain abbreviations of bit vectors. -/

namespace Sys2Proof

/-- A host-visible register word, REG_W = 32 bits (R7, R66). -/
abbrev Word := BitVec 32

/-- A byte, bits 7..0 (R8). -/
abbrev Byte := BitVec 8

/-- A host-transaction word of format HT41, 41 bits (R81). -/
abbrev HT41 := BitVec 41

/-- The index of a word slot of the register space, `A[7:2]` (R60, R63). -/
abbrev SlotIdx := BitVec 6

end Sys2Proof
end

