-- ==== Sys2Proof/Config.lean ====
section
/-! DEFINITION. What an implementation fixes: the protocol constants (10_state.md R48), the
implementation parameters (00_scope.md R7) and the one free value of the model, the level of the
data line in the cycles for which the environment's record has ended (93_implementation_defined.md
section 3). -/

namespace Sys2Proof

/-- START_BYTE, the first byte sent in an attempt (R48). -/
def Config.startByte : Byte := 0x01#8

/-- POLL_BYTE, the second byte sent; its response is the controller-type byte (R48). -/
def Config.pollByte : Byte := 0x42#8

/-- MARKER, the required response to the third byte (R48). -/
def Config.marker : Byte := 0x5A#8

/-- DUMMY_BYTE, the third byte sent and each of the six frame-capture bytes (R48). -/
def Config.dummyByte : Byte := 0x00#8

/-- SYNC_STAGES, the depth of the DAT synchroniser after reset: the spec's value 2 (R7, R47). A state
carries its own chain, so a start state with another depth models another value (log 5). -/
def Config.syncStages : Nat := 2

/-- DESIGN CHOICE (log 3): the level of `psx_dat` in cycle `n` when `State.inputs` holds no record for
that cycle. A free value: no proof can see what it is. -/
opaque Config.psxDat : Nat → Bool

/-- F_CLK, the frequency of `clk`, OPEN (R7): no rule of the block depends on it, only the host's
conversion of R310. DESIGN CHOICE (log 14): it is a rational number, of hertz. -/
opaque Config.fClk : Rat

/-- PSXC_BASE, the base address of the register window in the host's space, OPEN (R64). DESIGN CHOICE
(log 14): it is a natural number, of bytes. -/
opaque Config.psxcBase : Nat

end Sys2Proof
end

