-- ==== Sys2Proof/Machine/State.lean ====
section
/-! DEFINITION. The state of the block (10_state.md R20-R50), its input and output ports as the model
holds them, and the state after reset (R49). Plain data: no field has a function type. -/

namespace Sys2Proof.Machine

open Sys2Proof

/-- Why the machine stops with a fault: never. No host operation faults, traps or hangs the block
(R86, R271), so the type has no constructor and nothing raises one. -/
inductive Fault where
  deriving DecidableEq, Repr

/-- Why an instruction is refused. -/
inductive Refusal where
  /-- Raised only by an arm of `exec` for an instruction that has no meaning yet: there is none. Safe. -/
  | notModelled (mnemonic : String)
  deriving DecidableEq, Repr

/-- `st`, the handshake state (R44), encoded as STATUS.STATE (R29). -/
inductive St where
  | idle
  | attn
  | start
  | poll
  | marker
  | frame
  | retry
  deriving DecidableEq, Repr

/-- `ph`, the half of the current bit exchange (R44). -/
inductive Phase where
  | lo
  | hi
  deriving DecidableEq, Repr

/-- STATUS.RESULT, the outcome of the most recent poll (R28, R270). Codes 5-15 are reserved and never
recorded (R276), so they have no constructor (log 8). -/
inductive PollResult where
  /-- NONE, code 0: no poll has completed since reset, or one is in progress. -/
  | noResult
  /-- OK, code 1 (R273). -/
  | ok
  /-- HANDSHAKE_MISMATCH, code 2 (R274). -/
  | handshakeMismatch
  /-- INVALID_CONFIGURATION, code 3 (R275). -/
  | invalidConfiguration
  /-- LINE_FAULT, code 4, reserved: this hardware never records it (R276). -/
  | lineFault
  deriving DecidableEq, Repr

/-- `dsync[0..SYNC_STAGES-1]`, the DAT synchroniser (R47): the first stage and the later ones, so that a
chain has at least one stage (R7: any SYNC_STAGES of 1 or more; log 5). -/
structure SyncChain where
  first : Bool
  rest : List Bool
  deriving DecidableEq, Repr

/-- A host transaction on the bus ports (R110): `bus_we`, `bus_addr`, `bus_wdata`. -/
structure BusTxn where
  we : Bool
  addr : BitVec 8
  wdata : Word
  deriving DecidableEq, Repr

/-- The levels of the input ports in one cycle (R110): `rst_n`; the transaction presented, none when
`bus_valid` is 0; and `psx_dat`. -/
structure PortsIn where
  rstN : Bool
  bus : Option BusTxn
  dat : Bool
  deriving DecidableEq, Repr

/-- The state of the block and of its ports. -/
structure State where
  /-- STATUS.DONE (R25). -/
  done : Bool
  /-- STATUS.VALID (R26). -/
  valid : Bool
  /-- STATUS.IGN (R27). -/
  ign : Bool
  /-- STATUS.RESULT (R28). -/
  result : PollResult
  /-- STATUS.ATTEMPTS (R30). -/
  attempts : BitVec 9
  /-- BUTTONS[15:0] (R32-R34). -/
  buttons : BitVec 16
  /-- AXES (R35, R36). -/
  axes : Word
  /-- CTYPE[7:0] (R37). -/
  ctype : Byte
  /-- HALF.HALF_PERIOD (R38). -/
  halfPeriod : BitVec 16
  /-- SETTLE.SETTLE (R39). -/
  settle : BitVec 24
  /-- RETRY.RETRY_MAX (R40). -/
  retryMax : BitVec 8
  /-- DZ.DZ_RADIUS (R42). -/
  dzRadius : Byte
  /-- The handshake state (R44). -/
  st : St
  /-- Cycles left in the current timed phase, counting the current one (R44, R123). -/
  tmr : BitVec 24
  /-- Half of the current bit exchange (R44). -/
  ph : Phase
  /-- Index of the bit being exchanged (R44). -/
  bidx : BitVec 3
  /-- Index of the frame byte being captured, 0..5 (R44; log 7). -/
  fidx : Fin 6
  /-- Byte being sent (R44). -/
  tx : Byte
  /-- Byte being received (R44). -/
  rx : Byte
  /-- The captured raw frame (R44). -/
  raw : Vector Byte 6
  /-- `cmd_q`, which drives `psx_cmd` (R45). -/
  cmdQ : Bool
  /-- `clk_q`, which drives `psx_clk` (R45). -/
  clkQ : Bool
  /-- `att_q`, which drives `psx_att` (R45). -/
  attQ : Bool
  /-- The DAT synchroniser (R47). -/
  dsync : SyncChain
  /-- The model's own: what `bus_rdata` carried in the last cycle, none when it held no read (log 4). -/
  rdata : Option Word
  /-- The model's own: the input ports' levels in the coming cycles, the next cycle first (log 2). -/
  inputs : List PortsIn
  /-- The model's own: the number of edges taken, the argument of `Config.psxDat` (log 3). -/
  cycle : Nat
  deriving DecidableEq, Repr

/-- The state after a reset edge (R49): every element at the value the spec gives; the model's own
fields at the values of logs 2, 3 and 4. -/
def State.reset : State where
  done := false
  valid := false
  ign := false
  result := .noResult
  attempts := 0
  buttons := 0
  axes := 0
  ctype := 0
  halfPeriod := 0
  settle := 0
  retryMax := 0
  dzRadius := 0
  st := .idle
  tmr := 0
  ph := .hi
  bidx := 0
  fidx := 0
  tx := 0
  rx := 0
  raw := Vector.replicate 6 0
  cmdQ := false
  clkQ := true
  attQ := true
  dsync := ⟨true, List.replicate (Config.syncStages - 1) true⟩
  rdata := none
  inputs := []
  cycle := 0

end Sys2Proof.Machine
end

