-- ==== Sys2Proof/Machine/Operands.lean ====
section
/-! DEFINITION. Operand assembly (30_encoding.md R83): the field a write takes from `D`, unsigned, the
bits outside it ignored; and the 32-bit value a read returns, each field zero-extended into its bit
positions. -/

namespace Sys2Proof.Machine

open Sys2Proof

/-! ### Fields of write data -/

/-- `D[1]`, the clear-DONE request of a STATUS write (R83, R238). -/
def clearDoneReq (d : Word) : Bool := d.getLsbD 1

/-- `D[3]`, the clear-IGN request of a STATUS write (R83, R238). -/
def clearIgnReq (d : Word) : Bool := d.getLsbD 3

/-- `D[15:0]`, the HALF_PERIOD of a HALF write (R83, R251). -/
def halfField (d : Word) : BitVec 16 := d.extractLsb' 0 16

/-- `D[23:0]`, the SETTLE of a SETTLE write (R83, R253). -/
def settleField (d : Word) : BitVec 24 := d.extractLsb' 0 24

/-- `D[7:0]`, the RETRY_MAX of a RETRY write (R83, R255). -/
def retryField (d : Word) : BitVec 8 := d.extractLsb' 0 8

/-- `D[7:0]`, the DZ_RADIUS of a DZ write (R83, R257). -/
def dzField (d : Word) : Byte := d.extractLsb' 0 8

/-! ### Words that reads return -/

/-- CTRL always reads as 0 (R23, R236). -/
def ctrlWord : Word := 0

/-- BUTTONS reads `zext_32(BUTTONS[15:0])` (R34, R239). -/
def buttonsWord (s : State) : Word := s.buttons.zeroExtend 32

/-- AXES reads its four lanes (R35, R240). -/
def axesWord (s : State) : Word := s.axes

/-- CTYPE reads `zext_32(CTYPE[7:0])` (R37, R241). -/
def ctypeWord (s : State) : Word := s.ctype.zeroExtend 32

/-- HALF reads `zext_32(HALF_PERIOD)` (R252). -/
def halfWord (s : State) : Word := s.halfPeriod.zeroExtend 32

/-- SETTLE reads `zext_32(SETTLE)` (R254). -/
def settleWord (s : State) : Word := s.settle.zeroExtend 32

/-- RETRY reads `zext_32(RETRY_MAX)` (R256). -/
def retryWord (s : State) : Word := s.retryMax.zeroExtend 32

/-- DZ reads `zext_32(DZ_RADIUS)` (R258). -/
def dzWord (s : State) : Word := s.dzRadius.zeroExtend 32

/-- A reserved offset reads as 0 (R65, R245). -/
def reservedWord : Word := 0

/-! ### Values the state machine takes from the configuration -/

/-- `H`, HALF_PERIOD as a tick count of the 24-bit phase timer (R122, R130). -/
def halfTicks (pre : State) : BitVec 24 := pre.halfPeriod.zeroExtend 24

/-- `max(SETTLE, 1)`, the settle interval held after a mismatch (R39, R158). -/
def settleTicks (pre : State) : BitVec 24 := if pre.settle = 0 then 1 else pre.settle

end Sys2Proof.Machine
end

