-- ==== Sys2Proof/Machine/Flags.lean ====
section
/-! DEFINITION. The STATUS register (10_state.md R24-R31): its fields, its word, its flag updates. -/

namespace Sys2Proof.Machine

open Sys2Proof

/-- STATUS.BUSY always equals `st != IDLE` (R24). -/
def busy (s : State) : Bool := decide (s.st ≠ .idle)

/-- The code of `st` in STATUS.STATE (R29). -/
def St.code : St → BitVec 4
  | .idle => 0
  | .attn => 1
  | .start => 2
  | .poll => 3
  | .marker => 4
  | .frame => 5
  | .retry => 6

/-- The code of a result in STATUS.RESULT (R28). -/
def PollResult.code : PollResult → BitVec 4
  | .noResult => 0
  | .ok => 1
  | .handshakeMismatch => 2
  | .invalidConfiguration => 3
  | .lineFault => 4

/-- The full STATUS word (R31). -/
def statusWord (s : State) : Word :=
  0#7 ++ (s.attempts ++ (0#4 ++ (s.st.code ++ (s.result.code ++ (BitVec.ofBool s.ign ++
    (BitVec.ofBool s.valid ++ (BitVec.ofBool s.done ++ BitVec.ofBool (busy s))))))))

/-- `IGN <- 1`: the block has dropped a host write (R27, R277). -/
def setIgn (acc : State) : State := { acc with ign := true }

/-- `status_w1c(D)`: clear DONE if `D[1]`, IGN if `D[3]` (R238). -/
def statusW1c (d : Word) (acc : State) : State :=
  { acc with
    done := acc.done && !clearDoneReq d
    ign := acc.ign && !clearIgnReq d }

end Sys2Proof.Machine
end

