-- ==== Sys2Proof/Machine/LineDriver.lean ====
section
/-! DEFINITION. The line driver and sampler (40_line_driver.md R110-R116): the output lines, the DAT
synchroniser and the phase timer.

Every update of one edge is computed from the state before the edge and all are applied together
(42_handshake.md R142). An operation that both reads and writes therefore takes two states: `pre`, the
state before the edge, which it reads, and `acc`, the state being built, which it writes (log 1). -/

namespace Sys2Proof.Machine

open Sys2Proof

/-- An output line (R111). -/
inductive Line where
  | cmd
  | clk
  | att
  deriving DecidableEq, Repr

/-- `LineSet(line, level)`: drive an output line at the current edge (R111). -/
def lineSet (line : Line) (level : Bool) (acc : State) : State :=
  match line with
  | .cmd => { acc with cmdQ := level }
  | .clk => { acc with clkQ := level }
  | .att => { acc with attQ := level }

/-- `psx_cmd` (R110). -/
def psxCmd (s : State) : Bool := s.cmdQ

/-- `psx_clk` (R110). -/
def psxClk (s : State) : Bool := s.clkQ

/-- `psx_att` (R110). -/
def psxAtt (s : State) : Bool := s.attQ

/-- The number of stages of a synchroniser, its SYNC_STAGES (R47). -/
def SyncChain.depth (c : SyncChain) : Nat := c.rest.length + 1

/-- The stages of a synchroniser, `dsync[0]` first (R47). -/
def SyncChain.stages (c : SyncChain) : List Bool := c.first :: c.rest

/-- The last stage, `dsync[SYNC_STAGES-1]` (R47). -/
def SyncChain.out (c : SyncChain) : Bool := c.rest.getLastD c.first

/-- One shift: the pin into `dsync[0]`, each stage into the next (R47). -/
def SyncChain.shift (pin : Bool) (c : SyncChain) : SyncChain :=
  ⟨pin, (c.first :: c.rest).dropLast⟩

/-- The reset value of a synchroniser: 1 in every stage, the depth kept (R47; log 6). -/
def SyncChain.idle (c : SyncChain) : SyncChain := ⟨true, c.rest.map fun _ => true⟩

/-- `LineGet(DAT)`: the synchronised data line (R112). -/
def lineGet (pre : State) : Bool := pre.dsync.out

/-- The synchroniser's shift at an edge, whether or not `LineGet` is called (R47, R112). -/
def dsyncShift (pin : Bool) (pre acc : State) : State :=
  { acc with dsync := pre.dsync.shift pin }

/-- `Wait(n)`: start a timed phase of `n` cycles (R113, R123). -/
def wait (n : BitVec 24) (acc : State) : State := { acc with tmr := n }

end Sys2Proof.Machine
end

