-- ==== Sys2Proof/Machine/Ops.lean ====
section
/-! DEFINITION. The named operations that instructions and the state machine share: the read port, the
register map, the configuration gate, the start of an attempt, and the recording of a result, which is
this block's analogue of taking an exception (60_exceptions.md R272, R281). There is no return from
one (R282): the host acknowledges by `statusW1c` or by the next POLL. -/

namespace Sys2Proof.Machine

open Sys2Proof

/-! ### The read port (20_memory.md R61) -/

/-- A read: `bus_rdata` carries `v` in the cycle of the read, and nothing else changes (R61). -/
def driveRead (v : Word) (acc : State) : State := { acc with rdata := some v }

/-- A cycle with no read: `bus_rdata` carries no valid value (R110; log 4). -/
def driveNone (acc : State) : State := { acc with rdata := none }

/-- `read_word(w)`: the word a read of slot `w` returns (R64, R230). -/
def readWord (slot : SlotIdx) (s : State) : Word :=
  match slot.toNat with
  | 0 => ctrlWord
  | 1 => statusWord s
  | 2 => buttonsWord s
  | 3 => axesWord s
  | 4 => ctypeWord s
  | 5 => halfWord s
  | 6 => settleWord s
  | 7 => retryWord s
  | 8 => dzWord s
  | _ => reservedWord

/-- The byte a host sees at a byte offset through a byte-addressed bridge: the register space is
little-endian (R66). -/
def bridgeByte (off : BitVec 8) (s : State) : Byte :=
  (readWord (off.extractLsb' 2 6) s).extractLsb' (8 * (off.extractLsb' 0 2).toNat) 8

/-! ### The configuration registers (45_host_registers.md R250) -/

/-- `cfg_write`: while busy the write is dropped and IGN is set, else the field is written (R250). -/
def cfgWrite (s : State) (written : State) : State :=
  if s.st ≠ .idle then setIgn s else written

/-! ### Starting an attempt -/

/-- `start_attempt()`: attention low, and `H` cycles of attention setup (R143). -/
def startAttempt (pre acc : State) : State :=
  wait (halfTicks pre) (lineSet .att false { acc with st := .attn })

/-! ### Recording a result (60_exceptions.md R272) -/

/-- `complete_idle(code)`: RESULT and DONE are recorded, `st` stays IDLE (R272). -/
def completeIdle (code : PollResult) (acc : State) : State :=
  { acc with result := code, done := true }

/-- `complete(code)`: RESULT and DONE are recorded and `st` returns to IDLE, at the completion edge of
a poll (R272, R281). -/
def complete (code : PollResult) (acc : State) : State :=
  { acc with result := code, done := true, st := .idle }

/-! ### The POLL command -/

/-- `accept_poll()` (R231). -/
def acceptPoll (s : State) : State :=
  startAttempt s { s with attempts := 1, result := .noResult, done := false }

/-- `cfg_fail()` (R232). -/
def cfgFail (s : State) : State :=
  completeIdle .invalidConfiguration { s with attempts := 0 }

/-- A write of CTRL with command POLL: dropped while busy (R233), a failed configuration check with
`HALF_PERIOD = 0` (R232), else accepted (R231); checked in this order (R280 item 4). -/
def pollCommand (s : State) : State :=
  if s.st ≠ .idle then setIgn s
  else if s.halfPeriod = 0 then cfgFail s
  else acceptPoll s

end Sys2Proof.Machine
end

