-- ==== Sys2Proof/Machine/ConfigRegs.lean ====
section
/-! DEFINITION. Reads and writes of the configuration registers HALF, SETTLE, RETRY and DZ
(45_host_registers.md R250-R258). -/

namespace Sys2Proof.Machine

open Sys2Proof

/-- RD_HALF: returns `zext_32(HALF_PERIOD)` (R252). -/
def execRdHalf (_al : BitVec 2) (_d : Word) (s : State) :
    Host.Outcome State Fault Refusal :=
  .next (driveRead (halfWord s) s)

/-- WR_HALF: HALF_PERIOD from `D`, or IGN while busy (R251, R250). -/
def execWrHalf (_al : BitVec 2) (d : Word) (s : State) :
    Host.Outcome State Fault Refusal :=
  .next (driveNone (cfgWrite s { s with halfPeriod := halfField d }))

/-- RD_SETTLE: returns `zext_32(SETTLE)` (R254). -/
def execRdSettle (_al : BitVec 2) (_d : Word) (s : State) :
    Host.Outcome State Fault Refusal :=
  .next (driveRead (settleWord s) s)

/-- WR_SETTLE: SETTLE from `D`, or IGN while busy (R253, R250). -/
def execWrSettle (_al : BitVec 2) (d : Word) (s : State) :
    Host.Outcome State Fault Refusal :=
  .next (driveNone (cfgWrite s { s with settle := settleField d }))

/-- RD_RETRY: returns `zext_32(RETRY_MAX)` (R256). -/
def execRdRetry (_al : BitVec 2) (_d : Word) (s : State) :
    Host.Outcome State Fault Refusal :=
  .next (driveRead (retryWord s) s)

/-- WR_RETRY: RETRY_MAX from `D`, or IGN while busy (R255, R250). -/
def execWrRetry (_al : BitVec 2) (d : Word) (s : State) :
    Host.Outcome State Fault Refusal :=
  .next (driveNone (cfgWrite s { s with retryMax := retryField d }))

/-- RD_DZ: returns `zext_32(DZ_RADIUS)` (R258). -/
def execRdDz (_al : BitVec 2) (_d : Word) (s : State) :
    Host.Outcome State Fault Refusal :=
  .next (driveRead (dzWord s) s)

/-- WR_DZ: DZ_RADIUS from `D`, or IGN while busy (R257, R250). -/
def execWrDz (_al : BitVec 2) (d : Word) (s : State) :
    Host.Outcome State Fault Refusal :=
  .next (driveNone (cfgWrite s { s with dzRadius := dzField d }))

end Sys2Proof.Machine
end

