-- ==== Sys2Proof/Machine/Ctrl.lean ====
section
/-! DEFINITION. Writes and reads of CTRL, the command register (10_state.md R23, 45_host_registers.md R230-R236).
Every write leaves `bus_rdata` without a valid value in its cycle (log 4). -/

namespace Sys2Proof.Machine

open Sys2Proof

/-- NOP: nothing, whatever `st` is (R235). -/
def execNop (_al : BitVec 2) (_hi : BitVec 24) (s : State) :
    Host.Outcome State Fault Refusal :=
  .next (driveNone s)

/-- POLL: dropped while busy (R233), INVALID_CONFIGURATION with `HALF_PERIOD = 0` (R232), else accepted
(R231). -/
def execPoll (_al : BitVec 2) (_hi : BitVec 24) (s : State) :
    Host.Outcome State Fault Refusal :=
  .next (driveNone (pollCommand s))

/-- CMD_RSVD: a reserved command code sets IGN, whatever `st` is (R234). -/
def execCmdRsvd (_al : BitVec 2) (_hi : BitVec 24) (_cmd : Byte) (s : State) :
    Host.Outcome State Fault Refusal :=
  .next (driveNone (setIgn s))

/-- RD_CTRL: returns 0 (R236). -/
def execRdCtrl (_al : BitVec 2) (_d : Word) (s : State) :
    Host.Outcome State Fault Refusal :=
  .next (driveRead ctrlWord s)

end Sys2Proof.Machine
end

