-- ==== Sys2Proof/Machine/Reserved.lean ====
section
/-! DEFINITION. Accesses of the reserved offsets 0x24-0xFF: RAZ/WI (20_memory.md R65, 45_host_registers.md R245,
R246). -/

namespace Sys2Proof.Machine

open Sys2Proof

/-- RD_RSVD: returns 0 (R245). -/
def execRdRsvd (_slot : SlotIdx) (_al : BitVec 2) (_d : Word) (s : State) :
    Host.Outcome State Fault Refusal :=
  .next (driveRead reservedWord s)

/-- WR_RSVD: ignored, IGN not set (R246). -/
def execWrRsvd (_slot : SlotIdx) (_al : BitVec 2) (_d : Word) (s : State) :
    Host.Outcome State Fault Refusal :=
  .next (driveNone s)

end Sys2Proof.Machine
end

