-- ==== Sys2Proof/Machine/Snapshot.lean ====
section
/-! DEFINITION. Reads and writes of the read-only data registers BUTTONS, AXES and CTYPE (45_host_registers.md
R239-R244). -/

namespace Sys2Proof.Machine

open Sys2Proof

/-- RD_BUTTONS: returns the button flags of the last snapshot (R239). -/
def execRdButtons (_al : BitVec 2) (_d : Word) (s : State) :
    Host.Outcome State Fault Refusal :=
  .next (driveRead (buttonsWord s) s)

/-- RD_AXES: returns the axis lanes of the last snapshot (R240). -/
def execRdAxes (_al : BitVec 2) (_d : Word) (s : State) :
    Host.Outcome State Fault Refusal :=
  .next (driveRead (axesWord s) s)

/-- RD_CTYPE: returns the raw controller-type byte (R241). -/
def execRdCtype (_al : BitVec 2) (_d : Word) (s : State) :
    Host.Outcome State Fault Refusal :=
  .next (driveRead (ctypeWord s) s)

/-- WR_BUTTONS: ignored, IGN not set (R242). -/
def execWrButtons (_al : BitVec 2) (_d : Word) (s : State) :
    Host.Outcome State Fault Refusal :=
  .next (driveNone s)

/-- WR_AXES: ignored, IGN not set (R243). -/
def execWrAxes (_al : BitVec 2) (_d : Word) (s : State) :
    Host.Outcome State Fault Refusal :=
  .next (driveNone s)

/-- WR_CTYPE: ignored, IGN not set (R244). -/
def execWrCtype (_al : BitVec 2) (_d : Word) (s : State) :
    Host.Outcome State Fault Refusal :=
  .next (driveNone s)

end Sys2Proof.Machine
end

