-- ==== Sys2Proof/Machine/Status.lean ====
section
/-! DEFINITION. Reads and writes of STATUS (45_host_registers.md R237, R238). -/

namespace Sys2Proof.Machine

open Sys2Proof

/-- RD_STATUS: returns the STATUS word of the pre-edge state (R237). -/
def execRdStatus (_al : BitVec 2) (_d : Word) (s : State) :
    Host.Outcome State Fault Refusal :=
  .next (driveRead (statusWord s) s)

/-- WR_STATUS: write-one-to-clear of DONE and IGN, honoured while busy (R238). -/
def execWrStatus (_al : BitVec 2) (d : Word) (s : State) :
    Host.Outcome State Fault Refusal :=
  .next (driveNone (statusW1c d s))

end Sys2Proof.Machine
end

