-- ==== Sys2Proof/Syntax.lean ====
section
/-! DEFINITION. The host operations of the block (30_encoding.md R81-R85), one constructor for each
mnemonic of spec/opcode_table.json (log 13: the rows that share a mnemonic split one operation over
several mask and match pairs, R84). Every bit of an HT41 word is kept: `al` is `A[1:0]`, which the block
ignores (R63); `d` is `D[31:0]`; for a CTRL write `hi` is `D[31:8]`, which the block ignores (R82). -/

namespace Sys2Proof

/-- A host operation: one bus transaction (R81). -/
inductive Instr where
  /-- Write CTRL with `D[7:0] = 0x00` (R235). -/
  | nop (al : BitVec 2) (hi : BitVec 24)
  /-- Write CTRL with `D[7:0] = 0x01` (R231-R233). -/
  | poll (al : BitVec 2) (hi : BitVec 24)
  /-- Write CTRL with `D[7:0] = cmd`, a reserved command code (R234). -/
  | cmdRsvd (al : BitVec 2) (hi : BitVec 24) (cmd : Byte)
  /-- Read CTRL (R236). -/
  | rdCtrl (al : BitVec 2) (d : Word)
  /-- Read STATUS (R237). -/
  | rdStatus (al : BitVec 2) (d : Word)
  /-- Write STATUS: write one to clear (R238). -/
  | wrStatus (al : BitVec 2) (d : Word)
  /-- Read BUTTONS (R239). -/
  | rdButtons (al : BitVec 2) (d : Word)
  /-- Read AXES (R240). -/
  | rdAxes (al : BitVec 2) (d : Word)
  /-- Read CTYPE (R241). -/
  | rdCtype (al : BitVec 2) (d : Word)
  /-- Write BUTTONS: ignored (R242). -/
  | wrButtons (al : BitVec 2) (d : Word)
  /-- Write AXES: ignored (R243). -/
  | wrAxes (al : BitVec 2) (d : Word)
  /-- Write CTYPE: ignored (R244). -/
  | wrCtype (al : BitVec 2) (d : Word)
  /-- Read HALF (R252). -/
  | rdHalf (al : BitVec 2) (d : Word)
  /-- Write HALF (R251). -/
  | wrHalf (al : BitVec 2) (d : Word)
  /-- Read SETTLE (R254). -/
  | rdSettle (al : BitVec 2) (d : Word)
  /-- Write SETTLE (R253). -/
  | wrSettle (al : BitVec 2) (d : Word)
  /-- Read RETRY (R256). -/
  | rdRetry (al : BitVec 2) (d : Word)
  /-- Write RETRY (R255). -/
  | wrRetry (al : BitVec 2) (d : Word)
  /-- Read DZ (R258). -/
  | rdDz (al : BitVec 2) (d : Word)
  /-- Write DZ (R257). -/
  | wrDz (al : BitVec 2) (d : Word)
  /-- Read a reserved offset, word slot `slot` in 9..63 (R245). -/
  | rdRsvd (slot : SlotIdx) (al : BitVec 2) (d : Word)
  /-- Write a reserved offset, word slot `slot` in 9..63 (R246). -/
  | wrRsvd (slot : SlotIdx) (al : BitVec 2) (d : Word)
  deriving DecidableEq, Repr

end Sys2Proof
end

