-- ==== Sys2Proof/Machine/Dispatch.lean ====
section
/-! DEFINITION. One arm per host operation: `exec` is `bus_step()` with that transaction presented, its
conditions read and its updates made on the pre-edge state (45_host_registers.md R230; log 1). -/

namespace Sys2Proof.Machine

open Sys2Proof

def exec (i : Instr) (s : State) : Host.Outcome State Fault Refusal :=
  match i with
  | .nop al hi => Sys2Proof.Machine.execNop al hi s
  | .poll al hi => Sys2Proof.Machine.execPoll al hi s
  | .cmdRsvd al hi cmd => Sys2Proof.Machine.execCmdRsvd al hi cmd s
  | .rdCtrl al d => Sys2Proof.Machine.execRdCtrl al d s
  | .rdStatus al d => Sys2Proof.Machine.execRdStatus al d s
  | .wrStatus al d => Sys2Proof.Machine.execWrStatus al d s
  | .rdButtons al d => Sys2Proof.Machine.execRdButtons al d s
  | .rdAxes al d => Sys2Proof.Machine.execRdAxes al d s
  | .rdCtype al d => Sys2Proof.Machine.execRdCtype al d s
  | .wrButtons al d => Sys2Proof.Machine.execWrButtons al d s
  | .wrAxes al d => Sys2Proof.Machine.execWrAxes al d s
  | .wrCtype al d => Sys2Proof.Machine.execWrCtype al d s
  | .rdHalf al d => Sys2Proof.Machine.execRdHalf al d s
  | .wrHalf al d => Sys2Proof.Machine.execWrHalf al d s
  | .rdSettle al d => Sys2Proof.Machine.execRdSettle al d s
  | .wrSettle al d => Sys2Proof.Machine.execWrSettle al d s
  | .rdRetry al d => Sys2Proof.Machine.execRdRetry al d s
  | .wrRetry al d => Sys2Proof.Machine.execWrRetry al d s
  | .rdDz al d => Sys2Proof.Machine.execRdDz al d s
  | .wrDz al d => Sys2Proof.Machine.execWrDz al d s
  | .rdRsvd slot al d => Sys2Proof.Machine.execRdRsvd slot al d s
  | .wrRsvd slot al d => Sys2Proof.Machine.execWrRsvd slot al d s

end Sys2Proof.Machine
end

