-- ==== Sys2Proof/WellFormed.lean ====
section
/-! DEFINITION. Which terms of `Instr` an HT41 word stands for (30_encoding.md R82, R84, R85): the
operands that the row's fixed bits restrict. Every other operand may take every value. -/

namespace Sys2Proof

/-- A reserved command code is one of 0x02-0xFF (R82). -/
def reservedCmd (cmd : Byte) : Bool := decide (2 ≤ cmd.toNat)

/-- A reserved offset is one of 0x24-0xFF, that is a word slot of 9..63 (R64, R65). -/
def reservedSlot (slot : SlotIdx) : Bool := decide (9 ≤ slot.toNat)

/-- The instruction is one that some HT41 word stands for. -/
def Instr.wf : Instr → Bool
  | .cmdRsvd _ _ cmd => reservedCmd cmd
  | .rdRsvd slot _ _ => reservedSlot slot
  | .wrRsvd slot _ _ => reservedSlot slot
  | .nop _ _ | .poll _ _ => true
  | .rdCtrl _ _ | .rdStatus _ _ | .wrStatus _ _ => true
  | .rdButtons _ _ | .rdAxes _ _ | .rdCtype _ _ => true
  | .wrButtons _ _ | .wrAxes _ _ | .wrCtype _ _ => true
  | .rdHalf _ _ | .wrHalf _ _ | .rdSettle _ _ | .wrSettle _ _ => true
  | .rdRetry _ _ | .wrRetry _ _ | .rdDz _ _ | .wrDz _ _ => true

end Sys2Proof
end

