-- ==== Sys2Proof/Decode.lean ====
section
/-! DEFINITION. The decoder of HT41 words (30_encoding.md R81-R86), the encoder, and the opcode map as
rows of mask and match (R85). Decoding an HT41 word is total and refuses none (R84, R86); the only
refusal is of a number that is no 41-bit word at all (log 12). -/

namespace Sys2Proof

/-! ### The fields of an HT41 word (R81) -/

/-- `W`, bit 40: 1 for a write. -/
def htWrite (x : HT41) : Bool := x.getLsbD 40

/-- `A[7:2]`, bits 39:34: the word slot, the only bits of the offset that are decoded (R63). -/
def htSlot (x : HT41) : SlotIdx := x.extractLsb' 34 6

/-- `A[1:0]`, bits 33:32: ignored by the block (R63). -/
def htAl (x : HT41) : BitVec 2 := x.extractLsb' 32 2

/-- `D`, bits 31:0. -/
def htData (x : HT41) : Word := x.extractLsb' 0 32

/-- `D[7:0]`, the command code of a CTRL write (R82). -/
def cmdOf (d : Word) : Byte := d.extractLsb' 0 8

/-- `D[31:8]`, ignored in a CTRL write (R82). -/
def cmdHigh (d : Word) : BitVec 24 := d.extractLsb' 8 24

/-- The HT41 word with the given fields: `W * 2^40 + A * 2^32 + D` (R81). -/
def htWord (w : Bool) (slot : SlotIdx) (al : BitVec 2) (d : Word) : HT41 :=
  BitVec.ofBool w ++ (slot ++ (al ++ d))

/-! ### Decoding (R84) -/

/-- A write of CTRL selects a command by `D[7:0]` (R82). -/
def decodeCtrlWrite (al : BitVec 2) (d : Word) : Instr :=
  match (cmdOf d).toNat with
  | 0 => .nop al (cmdHigh d)
  | 1 => .poll al (cmdHigh d)
  | _ => .cmdRsvd al (cmdHigh d) (cmdOf d)

/-- A write of word slot `slot` (R84). -/
def decodeWrite (slot : SlotIdx) (al : BitVec 2) (d : Word) : Instr :=
  match slot.toNat with
  | 0 => decodeCtrlWrite al d
  | 1 => .wrStatus al d
  | 2 => .wrButtons al d
  | 3 => .wrAxes al d
  | 4 => .wrCtype al d
  | 5 => .wrHalf al d
  | 6 => .wrSettle al d
  | 7 => .wrRetry al d
  | 8 => .wrDz al d
  | _ => .wrRsvd slot al d

/-- A read of word slot `slot` (R84). -/
def decodeRead (slot : SlotIdx) (al : BitVec 2) (d : Word) : Instr :=
  match slot.toNat with
  | 0 => .rdCtrl al d
  | 1 => .rdStatus al d
  | 2 => .rdButtons al d
  | 3 => .rdAxes al d
  | 4 => .rdCtype al d
  | 5 => .rdHalf al d
  | 6 => .rdSettle al d
  | 7 => .rdRetry al d
  | 8 => .rdDz al d
  | _ => .rdRsvd slot al d

/-- The host operation an HT41 word stands for (R84): total, no word is illegal (R86). -/
def decode (x : HT41) : Instr :=
  match htWrite x with
  | true => decodeWrite (htSlot x) (htAl x) (htData x)
  | false => decodeRead (htSlot x) (htAl x) (htData x)

/-- Why a number is refused as a host-transaction word. -/
inductive DecodeError where
  /-- The number does not fit the 41 bits of format HT41 (R81): the bus has no wires for it. Safe. -/
  | wordTooWide
  deriving DecidableEq, Repr

/-- The host operation a number stands for, refused by name when it is no 41-bit word. -/
def decodeNat (n : Nat) : Except DecodeError Instr :=
  if n < 2 ^ 41 then .ok (decode (BitVec.ofNat 41 n)) else .error .wordTooWide

/-- The instruction read from the low `nbits` bits of `w`, an opcode-table word (bits above `nbits` are
0); none where the decoder refuses. One HT41 word is one bus transaction, so there is no byte order to
choose (log 12). -/
def decodeTableWord (nbits w : Nat) : Option Instr :=
  match decodeNat (w % 2 ^ nbits) with
  | .ok i => some i
  | .error _ => none

/-! ### Encoding (R81, R85) -/

/-- The data word of a CTRL write with command `cmd` and ignored high bits `hi` (R82). -/
def cmdWord (hi : BitVec 24) (cmd : Byte) : Word := hi ++ cmd

/-- The HT41 word of a well-formed instruction, written from the opcode map (R85). -/
def encode : Instr → HT41
  | .nop al hi => htWord true 0#6 al (cmdWord hi 0x00#8)
  | .poll al hi => htWord true 0#6 al (cmdWord hi 0x01#8)
  | .cmdRsvd al hi cmd => htWord true 0#6 al (cmdWord hi cmd)
  | .rdCtrl al d => htWord false 0#6 al d
  | .rdStatus al d => htWord false 1#6 al d
  | .wrStatus al d => htWord true 1#6 al d
  | .rdButtons al d => htWord false 2#6 al d
  | .wrButtons al d => htWord true 2#6 al d
  | .rdAxes al d => htWord false 3#6 al d
  | .wrAxes al d => htWord true 3#6 al d
  | .rdCtype al d => htWord false 4#6 al d
  | .wrCtype al d => htWord true 4#6 al d
  | .rdHalf al d => htWord false 5#6 al d
  | .wrHalf al d => htWord true 5#6 al d
  | .rdSettle al d => htWord false 6#6 al d
  | .wrSettle al d => htWord true 6#6 al d
  | .rdRetry al d => htWord false 7#6 al d
  | .wrRetry al d => htWord true 7#6 al d
  | .rdDz al d => htWord false 8#6 al d
  | .wrDz al d => htWord true 8#6 al d
  | .rdRsvd slot al d => htWord false slot al d
  | .wrRsvd slot al d => htWord true slot al d

/-! ### The opcode map as mask and match rows (R85) -/

/-- The mnemonic of an instruction, as spec/opcode_table.json spells it. -/
def mnemonicOf : Instr → String
  | .nop _ _ => "NOP"
  | .poll _ _ => "POLL"
  | .cmdRsvd _ _ _ => "CMD_RSVD"
  | .rdCtrl _ _ => "RD_CTRL"
  | .rdStatus _ _ => "RD_STATUS"
  | .wrStatus _ _ => "WR_STATUS"
  | .rdButtons _ _ => "RD_BUTTONS"
  | .wrButtons _ _ => "WR_BUTTONS"
  | .rdAxes _ _ => "RD_AXES"
  | .wrAxes _ _ => "WR_AXES"
  | .rdCtype _ _ => "RD_CTYPE"
  | .wrCtype _ _ => "WR_CTYPE"
  | .rdHalf _ _ => "RD_HALF"
  | .wrHalf _ _ => "WR_HALF"
  | .rdSettle _ _ => "RD_SETTLE"
  | .wrSettle _ _ => "WR_SETTLE"
  | .rdRetry _ _ => "RD_RETRY"
  | .wrRetry _ _ => "WR_RETRY"
  | .rdDz _ _ => "RD_DZ"
  | .wrDz _ _ => "WR_DZ"
  | .rdRsvd _ _ _ => "RD_RSVD"
  | .wrRsvd _ _ _ => "WR_RSVD"

/-- A row of the opcode map: a word `x` is the row when `x & mask = match` (R85). -/
structure OpRow where
  mnemonic : String
  mask : HT41
  pattern : HT41
  deriving DecidableEq, Repr

/-- The word is the row (R85). -/
def OpRow.covers (r : OpRow) (x : HT41) : Bool := (x &&& r.mask) == r.pattern

/-- The rows of CTRL writes (R82, R85). -/
def ctrlRows : List OpRow :=
  [⟨"NOP", 0x1FC000000FF#41, 0x10000000000#41⟩,
   ⟨"POLL", 0x1FC000000FF#41, 0x10000000001#41⟩,
   ⟨"CMD_RSVD", 0x1FC000000FE#41, 0x10000000002#41⟩,
   ⟨"CMD_RSVD", 0x1FC000000FC#41, 0x10000000004#41⟩,
   ⟨"CMD_RSVD", 0x1FC000000F8#41, 0x10000000008#41⟩,
   ⟨"CMD_RSVD", 0x1FC000000F0#41, 0x10000000010#41⟩,
   ⟨"CMD_RSVD", 0x1FC000000E0#41, 0x10000000020#41⟩,
   ⟨"CMD_RSVD", 0x1FC000000C0#41, 0x10000000040#41⟩,
   ⟨"CMD_RSVD", 0x1FC00000080#41, 0x10000000080#41⟩]

/-- The rows of the mapped registers other than CTRL writes (R85). -/
def registerRows : List OpRow :=
  [⟨"RD_CTRL", 0x1FC00000000#41, 0x00000000000#41⟩,
   ⟨"RD_STATUS", 0x1FC00000000#41, 0x00400000000#41⟩,
   ⟨"WR_STATUS", 0x1FC00000000#41, 0x10400000000#41⟩,
   ⟨"RD_BUTTONS", 0x1FC00000000#41, 0x00800000000#41⟩,
   ⟨"RD_AXES", 0x1FC00000000#41, 0x00C00000000#41⟩,
   ⟨"RD_CTYPE", 0x1FC00000000#41, 0x01000000000#41⟩,
   ⟨"WR_BUTTONS", 0x1FC00000000#41, 0x10800000000#41⟩,
   ⟨"WR_AXES", 0x1FC00000000#41, 0x10C00000000#41⟩,
   ⟨"WR_CTYPE", 0x1FC00000000#41, 0x11000000000#41⟩,
   ⟨"RD_HALF", 0x1FC00000000#41, 0x01400000000#41⟩,
   ⟨"WR_HALF", 0x1FC00000000#41, 0x11400000000#41⟩,
   ⟨"RD_SETTLE", 0x1FC00000000#41, 0x01800000000#41⟩,
   ⟨"WR_SETTLE", 0x1FC00000000#41, 0x11800000000#41⟩,
   ⟨"RD_RETRY", 0x1FC00000000#41, 0x01C00000000#41⟩,
   ⟨"WR_RETRY", 0x1FC00000000#41, 0x11C00000000#41⟩,
   ⟨"RD_DZ", 0x1FC00000000#41, 0x02000000000#41⟩,
   ⟨"WR_DZ", 0x1FC00000000#41, 0x12000000000#41⟩]

/-- The rows of the reserved offsets (R65, R85). -/
def reservedRows : List OpRow :=
  [⟨"RD_RSVD", 0x1FC00000000#41, 0x02400000000#41⟩,
   ⟨"RD_RSVD", 0x1F800000000#41, 0x02800000000#41⟩,
   ⟨"RD_RSVD", 0x1F000000000#41, 0x03000000000#41⟩,
   ⟨"RD_RSVD", 0x1C000000000#41, 0x04000000000#41⟩,
   ⟨"RD_RSVD", 0x18000000000#41, 0x08000000000#41⟩,
   ⟨"WR_RSVD", 0x1FC00000000#41, 0x12400000000#41⟩,
   ⟨"WR_RSVD", 0x1F800000000#41, 0x12800000000#41⟩,
   ⟨"WR_RSVD", 0x1F000000000#41, 0x13000000000#41⟩,
   ⟨"WR_RSVD", 0x1C000000000#41, 0x14000000000#41⟩,
   ⟨"WR_RSVD", 0x18000000000#41, 0x18000000000#41⟩]

/-- The 36 rows of the opcode map (R85, spec/opcode_table.json). -/
def opcodeRows : List OpRow := ctrlRows ++ (registerRows ++ reservedRows)

end Sys2Proof
end

