-- ==== Sys2Proof/Machine/DeadZone.lean ====
section
/-! DEFINITION. The dead-zone filter (44_deadzone.md R210-R214). -/

namespace Sys2Proof.Machine

open Sys2Proof

/-- `dz(x, r)`: inputs in the open interval `(128 - r, 128 + r)` become 128, on integers with no
wrap-around (R210). -/
def dz (x r : Byte) : Byte :=
  if 128 - (r.toNat : Int) < (x.toNat : Int) ∧ (x.toNat : Int) < 128 + (r.toNat : Int) then 128#8
  else x

end Sys2Proof.Machine
end

