-- ==== Sys2Proof/Machine/FrameDecoder.lean ====
section
/-! DEFINITION. The frame decoder (43_frame_decoder.md R180-R192): bit-order correction, active-low
inversion of the button bytes, mask testing, signed axis conversion. Pure total functions. -/

namespace Sys2Proof.Machine

open Sys2Proof

/-! ### Corrections -/

/-- `rev8(b)`: bit `i` of the result is bit `7 - i` of `b` (R180). -/
def rev8 (b : Byte) : Byte :=
  BitVec.ofBool (b.getLsbD 0) ++ (BitVec.ofBool (b.getLsbD 1) ++ (BitVec.ofBool (b.getLsbD 2) ++
  (BitVec.ofBool (b.getLsbD 3) ++ (BitVec.ofBool (b.getLsbD 4) ++ (BitVec.ofBool (b.getLsbD 5) ++
  (BitVec.ofBool (b.getLsbD 6) ++ BitVec.ofBool (b.getLsbD 7)))))))

/-- `inv8(b)`: the active-low inversion (R181). -/
def inv8 (b : Byte) : Byte := b ^^^ 0xFF#8

/-! ### Buttons -/

/-- The button flags by their source names (R33). -/
inductive Button where
  | select | joyRight | joyLeft | start | up | right | down | left
  | l2 | r2 | l1 | r1 | triangle | circle | cross | square
  deriving DecidableEq, Repr

/-- The BUTTONS bit of a flag (R33). -/
def Button.bit : Button → Nat
  | .select => 0
  | .joyRight => 1
  | .joyLeft => 2
  | .start => 3
  | .up => 4
  | .right => 5
  | .down => 6
  | .left => 7
  | .l2 => 8
  | .r2 => 9
  | .l1 => 10
  | .r1 => 11
  | .triangle => 12
  | .circle => 13
  | .cross => 14
  | .square => 15

/-- The frame byte, 0 or 1, whose mask tests a flag (R33). -/
def Button.byteIdx : Button → Fin 2
  | .select | .joyRight | .joyLeft | .start | .up | .right | .down | .left => 0
  | .l2 | .r2 | .l1 | .r1 | .triangle | .circle | .cross | .square => 1

/-- The source's mask of a flag (R33, R48). -/
def Button.mask : Button → Byte
  | .select | .l2 => 0x01#8
  | .joyRight | .r2 => 0x02#8
  | .joyLeft | .l1 => 0x04#8
  | .start | .r1 => 0x08#8
  | .up | .triangle => 0x10#8
  | .right | .circle => 0x20#8
  | .down | .cross => 0x40#8
  | .left | .square => 0x80#8

/-- The sixteen flags in the order of their BUTTONS bits (R33). -/
def allButtons : List Button :=
  [.select, .joyRight, .joyLeft, .start, .up, .right, .down, .left,
   .l2, .r2, .l1, .r1, .triangle, .circle, .cross, .square]

/-- Mask testing of a flag over the corrected and inverted button bytes `d0` and `d1` (R184). -/
def maskTest (b : Button) (d0 d1 : Byte) : Bool :=
  ((if b.byteIdx = 0 then d0 else d1) &&& b.mask) != 0

/-- `buttons(c0, c1)` of the corrected button bytes (R186). -/
def buttons (c0 c1 : Byte) : BitVec 16 := inv8 c1 ++ inv8 c0

/-! ### Axes -/

/-- `axis(x, r)`: the dead-zone filter, then minus 128, stored in two's complement (R188, R189). -/
def axis (x r : Byte) : Byte := BitVec.ofInt 8 ((dz x r).toNat - 128)

/-! ### The whole frame -/

/-- The BUTTONS field of a raw frame (R190). -/
def frameButtons (b0 b1 : Byte) : BitVec 16 := buttons (rev8 b0) (rev8 b1)

/-- The AXES word of a raw frame: lane `k` from frame byte `k + 2` (R35, R190). -/
def frameAxes (b2 b3 b4 b5 r : Byte) : Word :=
  axis (rev8 b5) r ++ (axis (rev8 b4) r ++ (axis (rev8 b3) r ++ axis (rev8 b2) r))

/-- `decode(raw[0..5], r) -> (BUTTONS, AXES)` (R190); BUTTONS as its 16 stored bits. -/
def decodeFrame (raw : Vector Byte 6) (r : Byte) : BitVec 16 × Word :=
  (frameButtons raw[0] raw[1], frameAxes raw[2] raw[3] raw[4] raw[5] r)

end Sys2Proof.Machine
end

