-- ==== Sys2Proof/Machine/Transceiver.lean ====
section
/-! DEFINITION. The bit-level transceiver (41_transceiver.md R120-R132): one byte exchanged bit by bit,
least significant first, in its cycle-exact form. -/

namespace Sys2Proof.Machine

open Sys2Proof

/-- `b` with bit `i` set to `v` (R8). -/
def setBit (b : Byte) (i : BitVec 3) (v : Bool) : Byte :=
  if v then b ||| (1#8 <<< i.toNat) else b &&& ~~~(1#8 <<< i.toNat)

/-- `begin(b)`: start the exchange of byte `b`; CMD and CLK change at one edge (R124). -/
def beginByte (b : Byte) (pre acc : State) : State :=
  wait (halfTicks pre) (lineSet .clk false (lineSet .cmd (b.getLsbD 0)
    { acc with tx := b, rx := 0, bidx := 0, ph := .lo }))

/-- End of a LO phase: sample DAT into `rx[bidx]`, raise CLK (R125). -/
def loEnd (pre acc : State) : State :=
  wait (halfTicks pre) (lineSet .clk true
    { acc with rx := setBit pre.rx pre.bidx (lineGet pre), ph := .hi })

/-- End of a HI phase with `bidx < 7`: drive the next bit, lower CLK (R126). -/
def hiEnd (pre acc : State) : State :=
  wait (halfTicks pre) (lineSet .clk false (lineSet .cmd (pre.tx.getLsbD (pre.bidx.toNat + 1))
    { acc with bidx := pre.bidx + 1, ph := .lo }))

end Sys2Proof.Machine
end

