-- ==== Sys2Proof/Machine/Handshake.lean ====
section
/-! DEFINITION. The handshake controller (42_handshake.md R140-R166): one state-machine step at an
edge. `pre` is the state before the edge, `acc` the state being built (R142; log 1). -/

namespace Sys2Proof.Machine

open Sys2Proof

/-- `attn_end()`: the attention setup ends, the start byte begins (R144). -/
def attnEnd (pre acc : State) : State :=
  beginByte Config.startByte pre { acc with st := .start }

/-- START byte done: the response is discarded (R147). -/
def startDone (pre acc : State) : State :=
  beginByte Config.pollByte pre { acc with st := .poll }

/-- POLL byte done: the response is the controller-type byte, stored as exchanged (R150). -/
def pollDone (c : Byte) (pre acc : State) : State :=
  beginByte Config.dummyByte pre { acc with ctype := c, st := .marker }

/-- Marker match: the frame capture begins (R152). -/
def markerMatch (pre acc : State) : State :=
  beginByte Config.dummyByte pre { acc with fidx := 0, st := .frame }

/-- Marker mismatch: attention high for the settle interval (R158). -/
def markerMismatch (pre acc : State) : State :=
  wait (settleTicks pre) (lineSet .att true { acc with st := .retry })

/-- FRAME byte done with `fidx < 5` (R153). -/
def frameByteDone (c : Byte) (pre acc : State) : State :=
  beginByte Config.dummyByte pre
    { acc with raw := pre.raw.set pre.fidx c, fidx := pre.fidx + 1 }

/-- The snapshot commit: BUTTONS, AXES and VALID from the captured frame (R154, R157). -/
def commitSnapshot (raw : Vector Byte 6) (r : Byte) (acc : State) : State :=
  { acc with
    buttons := (decodeFrame raw r).1
    axes := (decodeFrame raw r).2
    valid := true }

/-- FRAME byte done with `fidx = 5`: attention high, the snapshot, the result OK (R154). -/
def frameDone (c : Byte) (pre acc : State) : State :=
  complete .ok (commitSnapshot (pre.raw.set 5 c) pre.dzRadius
    (lineSet .att true { acc with raw := pre.raw.set 5 c }))

/-- `byte_done(st, c)` with `c = rx` (R127, R146). It is called in the four exchange states only. -/
def byteDone (pre acc : State) : State :=
  match pre.st with
  | .start => startDone pre acc
  | .poll => pollDone pre.rx pre acc
  | .marker =>
      if pre.rx = Config.marker then markerMatch pre acc else markerMismatch pre acc
  | .frame =>
      if pre.fidx < 5 then frameByteDone pre.rx pre acc else frameDone pre.rx pre acc
  | .idle | .attn | .retry => acc

/-- `retry_end()`: one more attempt while the bound allows it, else HANDSHAKE_MISMATCH (R160). -/
def retryEnd (pre acc : State) : State :=
  if pre.attempts.toNat ≤ pre.retryMax.toNat then
    startAttempt pre { acc with attempts := pre.attempts + 1 }
  else complete .handshakeMismatch acc

/-- The end of a phase of a byte exchange (R125-R127, R142). -/
def exchangeEnd (pre acc : State) : State :=
  match pre.ph with
  | .lo => loEnd pre acc
  | .hi => if pre.bidx.toNat < 7 then hiEnd pre acc else byteDone pre acc

/-- The phase-end action of the state (R142). -/
def phaseEnd (pre acc : State) : State :=
  match pre.st with
  | .idle => acc
  | .attn => attnEnd pre acc
  | .start | .poll | .marker | .frame => exchangeEnd pre acc
  | .retry => retryEnd pre acc

/-- `fsm_step()`: nothing in IDLE; else count the phase down, or take its end action (R123, R142). -/
def fsmStep (pre acc : State) : State :=
  if pre.st = .idle then acc
  else if 1 < pre.tmr.toNat then { acc with tmr := pre.tmr - 1 }
  else phaseEnd pre acc

end Sys2Proof.Machine
end

