-- ==== Sys2Proof/Machine/Edge.lean ====
section
/-! DEFINITION. One rising edge of `clk` (42_handshake.md R142, 70_reset_and_hazards.md R300): the input
ports of the cycle, the host transaction they present, and the updates that the edge applies together:
the transaction's, the state machine's and the synchroniser's; or, with `rst_n` at 0, the reset. -/

namespace Sys2Proof.Machine

open Sys2Proof

/-! ### The input ports of the cycle (R110) -/

/-- The ports when the environment's record has ended: `rst_n` high, no transaction, and a free value
on the data line (logs 2 and 3). -/
def quietPorts (cycle : Nat) : PortsIn := ⟨true, none, Config.psxDat cycle⟩

/-- The levels of the input ports in the cycle that ends at the next edge. -/
def ports (s : State) : PortsIn :=
  match s.inputs with
  | [] => quietPorts s.cycle
  | p :: _ => p

/-- The HT41 word of a presented transaction: `bus_we` is `W`, `bus_addr` is `A`, `bus_wdata` is `D`
(R81, R110). -/
def BusTxn.word (t : BusTxn) : HT41 :=
  htWord t.we (t.addr.extractLsb' 2 6) (t.addr.extractLsb' 0 2) t.wdata

/-- The transaction an HT41 word presents on the bus ports (R81, R110). -/
def busTxnOf (x : HT41) : BusTxn := ⟨htWrite x, htSlot x ++ htAl x, htData x⟩

/-- The host operation presented in the cycle, if there is one (R84, R230). -/
def fetch (s : State) : Option Instr := (ports s).bus.map fun t => decode t.word

/-- `s` with the HT41 word `x` presented in its cycle and reset released, the data line and every later
cycle as before. -/
def presentWord (x : HT41) (s : State) : State :=
  { s with inputs := ⟨true, some (busTxnOf x), (ports s).dat⟩ :: s.inputs.tail }

/-- A cycle with no transaction (R230): the bus changes nothing. -/
def noTransaction (s : State) : State := driveNone s

/-! ### The edge -/

/-- The cycle is over: the environment's record moves on by one. -/
def nextCycle (acc : State) : State :=
  { acc with inputs := acc.inputs.tail, cycle := acc.cycle + 1 }

/-- Every element of the block's state takes its reset value (R49, R300); the read data of the cycle
stays on the port (R300, R61), the synchroniser keeps its depth (log 6). -/
def resetBlock (acc : State) : State :=
  { State.reset with
    dsync := acc.dsync.idle
    rdata := acc.rdata
    inputs := acc.inputs
    cycle := acc.cycle }

/-- The edge that ends the cycle of `pre`, after the host transaction of the cycle has made `acc` of it:
reset overrides everything (R280 item 1); else the state machine steps and the synchroniser shifts,
both reading `pre` (R142). A completion's DONE is written after the transaction's clear, so the set
wins (R280 item 2). -/
def clockEdge (pre acc : State) : State :=
  if (ports pre).rstN then
    nextCycle (dsyncShift (ports pre).dat pre (fsmStep pre acc))
  else nextCycle (resetBlock acc)

end Sys2Proof.Machine
end

