-- ==== Sys2Proof/Machine/Step.lean ====
section
/-! DEFINITION. One step of the machine is one clock cycle and the rising edge that ends it
(42_handshake.md R142): the presented host operation, if there is one, runs on the pre-edge state, and
`clockEdge` adds the state machine's step, the synchroniser's shift, or the reset. -/

namespace Sys2Proof.Machine

open Sys2Proof

/-- One clock cycle (R142, R72). -/
def step (s : State) : Host.Outcome State Fault Refusal :=
  match fetch s with
  | none => .next (clockEdge s (noTransaction s))
  | some i =>
      match exec i s with
      | .next b => .next (clockEdge s b)
      | .fault r => .fault r
      | .refused r => .refused r

/-- `s` with the opcode-table word `w` presented on the bus in its cycle, so that the next step runs
it; `rst_n` is released in that cycle and nothing else changes (log 11). -/
def State.withFetchWord (s : State) (nbits w : Nat) : State :=
  presentWord (BitVec.ofNat 41 (w % 2 ^ nbits)) s

end Sys2Proof.Machine
end

