-- ==== Sys2Proof/Machine/Events.lean ====
section
/-! DEFINITION. The poll at the level of line events (42_handshake.md R165, 41_transceiver.md R121): the
same behaviour as the cycle-exact state machine with the cycles counted by `hold` events only, the
data bits supplied by an environment. -/

namespace Sys2Proof.Machine

open Sys2Proof

/-- A line event. -/
inductive LineEvent where
  /-- `LineSet(ATT, level)`. -/
  | att (level : Bool)
  /-- `LineSet(CMD, bit)` and `LineSet(CLK, 0)`, at one edge (R121, R124). -/
  | bitLow (bit : Bool)
  /-- `LineSet(CLK, 1)`, at the edge that samples DAT (R121, R125). -/
  | clkHigh
  /-- `Wait(n)`: the lines are held for `n` cycles (R113). -/
  | hold (n : Nat)
  deriving DecidableEq, Repr

/-- The byte that eight sampled bits make, least significant first (R121). -/
def assemble (bits : Nat → Bool) : Byte :=
  (List.range 8).foldl (fun c i => setBit c (BitVec.ofNat 3 i) (bits i)) 0

/-- The events of one bit exchange (R121). -/
def bitEvents (H : Nat) (bit : Bool) : List LineEvent :=
  [.bitLow bit, .hold H, .clkHigh, .hold H]

/-- The events of `XCHG(b)` (R121). -/
def xchgEvents (H : Nat) (b : Byte) : List LineEvent :=
  (List.range 8).flatMap fun i => bitEvents H (b.getLsbD i)

/-- What one poll produces. -/
structure PollRun where
  result : PollResult
  attempts : Nat
  ctype : Byte
  /-- The frame's BUTTONS and AXES, when the result is OK. -/
  snapshot : Option (BitVec 16 × Word)
  events : List LineEvent
  deriving DecidableEq, Repr

/-- The events of an attempt up to the end of its marker exchange: 49 half-periods (R162, R165). -/
def handshakeEvents (H : Nat) : List LineEvent :=
  [.att false, .hold H] ++ (xchgEvents H Config.startByte ++
    (xchgEvents H Config.pollByte ++ xchgEvents H Config.dummyByte))

/-- The events of the capture of six frame bytes (R165). -/
def frameEvents (H : Nat) : List LineEvent :=
  (List.range 6).flatMap fun _ => xchgEvents H Config.dummyByte

/-- The raw frame that the environment supplies in bytes 3..8 of an attempt (R69, R165). -/
def envFrame (env : Nat → Nat → Bool) : Vector Byte 6 :=
  #v[assemble (env 3), assemble (env 4), assemble (env 5),
     assemble (env 6), assemble (env 7), assemble (env 8)]

/-- `poll_events` (R165) from attempt `a` with `left` retries left after it. `S` is the settle interval
`max(SETTLE, 1)`; `env a k i` is the data bit of bit `i` of byte `k` of attempt `a`. -/
def pollEvents (H S : Nat) (r : Byte) (env : Nat → Nat → Nat → Bool) :
    (left a : Nat) → PollRun
  | 0, a =>
      if assemble (env a 2) = Config.marker then
        ⟨.ok, a, assemble (env a 1), some (decodeFrame (envFrame (env a)) r),
          handshakeEvents H ++ (frameEvents H ++ [.att true])⟩
      else
        ⟨.handshakeMismatch, a, assemble (env a 1), none,
          handshakeEvents H ++ [.att true, .hold S]⟩
  | left + 1, a =>
      if assemble (env a 2) = Config.marker then
        ⟨.ok, a, assemble (env a 1), some (decodeFrame (envFrame (env a)) r),
          handshakeEvents H ++ (frameEvents H ++ [.att true])⟩
      else
        let later := pollEvents H S r env left (a + 1)
        { later with events := handshakeEvents H ++ ([.att true, .hold S] ++ later.events) }

/-- The cycles an event takes. -/
def LineEvent.cycles : LineEvent → Nat
  | .hold n => n
  | .att _ | .bitLow _ | .clkHigh => 0

/-- The cycles that a sequence of events takes. -/
def duration (es : List LineEvent) : Nat := (es.map LineEvent.cycles).sum

/-- The levels of the three output lines. -/
structure Levels where
  cmd : Bool
  clk : Bool
  att : Bool
  deriving DecidableEq, Repr

/-- The idle levels (R116). -/
def idleLevels : Levels := ⟨false, true, true⟩

/-- The levels that a state drives (R110). -/
def levelsOf (s : State) : Levels := ⟨psxCmd s, psxClk s, psxAtt s⟩

/-- The levels after an event that changes lines. -/
def LineEvent.apply (l : Levels) : LineEvent → Levels
  | .att level => { l with att := level }
  | .bitLow bit => { l with cmd := bit, clk := false }
  | .clkHigh => { l with clk := true }
  | .hold _ => l

/-- The levels of the lines cycle by cycle: each `hold n` gives `n` cycles of the levels set so far. -/
def waveform : Levels → List LineEvent → List Levels
  | _, [] => []
  | l, e :: es => List.replicate e.cycles l ++ waveform (e.apply l) es

/-- The edge, counted from the accepting edge of the poll, that samples bit `i` of byte `k` of attempt
`a` (R128, R325): the end of that bit's LO phase. -/
def sampleEdge (H S a k i : Nat) : Nat :=
  (a - 1) * (49 * H + S) + H + 16 * H * k + 2 * H * i + H

end Sys2Proof.Machine
end

