-- ==== Sys2Proof/Machine/HostSide.lean ====
section
/-! DEFINITION. The host's side of the interface, which the spec gives as functions of the host: the
dead-zone radius (44_deadzone.md R215, R216), the conversion of times to cycles (R310), the assembler
and its pseudo-instructions (30_encoding.md R88, R89), and the value of `poll()` in register terms
(45_host_registers.md R259, R260) and the constructor (R261). No step of the machine depends on this file. -/

namespace Sys2Proof.Machine

open Sys2Proof

/-! ### Computations before a write -/

/-- `radius(f)`: `ceil(255 * f)` in exact rational arithmetic; none is InvalidConfiguration, for `f`
outside [0, 1] (R215, R216). -/
def radius (f : Rat) : Option Byte :=
  if 0 ≤ f ∧ f ≤ 1 then some (BitVec.ofNat 8 ⌈255 * f⌉.toNat) else none

/-- The smallest number of cycles not shorter than `t` microseconds at a clock of `f` hertz (R310; log 14:
both are rational numbers). -/
def cyclesAt (f t : Rat) : Nat := ⌈t * f / 10 ^ 6⌉.toNat

/-- The same at the block's own clock, whose frequency is open (R7, R310). -/
def cyclesFor (t : Rat) : Nat := cyclesAt Config.fClk t

/-- The host address of a byte offset of the register window (R64). -/
def hostAddress (off : BitVec 8) : Nat := Config.psxcBase + off.toNat

/-! ### The assembler (R88) -/

/-- A register operand: a name, or any byte offset written `@0xNN` (R88). -/
inductive RegName where
  | ctrl | status | buttons | axes | ctype | half | settle | retry | dz
  | at (off : BitVec 8)
  deriving DecidableEq, Repr

/-- The byte offset of a register operand (R64, R88). -/
def RegName.offset : RegName → BitVec 8
  | .ctrl => 0x00#8
  | .status => 0x04#8
  | .buttons => 0x08#8
  | .axes => 0x0C#8
  | .ctype => 0x10#8
  | .half => 0x14#8
  | .settle => 0x18#8
  | .retry => 0x1C#8
  | .dz => 0x20#8
  | .at off => off

/-- `RD <reg>` assembles to one HT41 word (R88). -/
def asmRd (r : RegName) : HT41 := (BusTxn.mk false r.offset 0).word

/-- `WR <reg>, <imm>` assembles to one HT41 word (R88). -/
def asmWr (r : RegName) (imm : Word) : HT41 := (BusTxn.mk true r.offset imm).word

/-! ### Pseudo-instructions (R89) -/

/-- `NOP`. -/
def asmNop : HT41 := asmWr .ctrl 0x00

/-- `POLL`. -/
def asmPoll : HT41 := asmWr .ctrl 0x01

/-- `CLRDONE`. -/
def asmClrDone : HT41 := asmWr .status 0x2

/-- `CLRIGN`. -/
def asmClrIgn : HT41 := asmWr .status 0x8

/-- `CLRALL`. -/
def asmClrAll : HT41 := asmWr .status 0xA

/-- `SETDZ f`: `WR DZ, radius(f)`; no write when the radius fails (R89, R215). -/
def asmSetDz (f : Rat) : Option HT41 := (radius f).map fun r => asmWr .dz (r.zeroExtend 32)

/-- The state after the cycle of `s`. -/
def cycleOf (s : State) : Option State :=
  match step s with
  | .next t => some t
  | .fault _ => none
  | .refused _ => none

/-- The host presents the word `x` in the machine's next cycle: the state after its edge, and the read
data of the cycle (R61, R62). -/
def busCycle (x : HT41) (s : State) : Option (State × Option Word) :=
  (cycleOf (presentWord x s)).map fun t => (t, t.rdata)

/-- The words are presented in order, one in each cycle. -/
def presentAll : List HT41 → State → Option State
  | [], s => some s
  | x :: xs, s => (cycleOf (presentWord x s)).bind (presentAll xs)

/-- `WAITIDLE`: `RD STATUS` until one returns BUSY = 0 (R89), giving up after `fuel` reads (log 20).
DESIGN CHOICE (log 23): one read in every cycle, `rst_n` at 1 in each.
The answer is the state after the last read and its value. -/
def waitIdle : (fuel : Nat) → State → Option (State × Word)
  | 0, _ => none
  | fuel + 1, s =>
      match busCycle (asmRd .status) s with
      | some (t, some v) => if v.getLsbD 0 then waitIdle fuel t else some (t, v)
      | some (_, none) => none
      | none => none

/-- `POLLWAIT`: `POLL; WAITIDLE; RD STATUS -> s` (R89). DESIGN CHOICE (log 23): in consecutive cycles. -/
def pollWait (fuel : Nat) (s : State) : Option (State × Word) := do
  let (t, _) ← busCycle asmPoll s
  let (u, _) ← waitIdle fuel t
  let (v, w) ← busCycle (asmRd .status) u
  let w ← w
  return (v, w)

/-- `READSTATE`: `RD BUTTONS -> b; RD AXES -> a` (R89). DESIGN CHOICE (log 23): in consecutive cycles. -/
def readState (s : State) : Option (State × Word × Word) := do
  let (t, b) ← busCycle (asmRd .buttons) s
  let b ← b
  let (u, a) ← busCycle (asmRd .axes) t
  let a ← a
  return (u, b, a)

/-! ### The value of `poll()` (R259, R260) -/

/-- The flags of the source's ControllerState (R33). -/
inductive ControllerFlag where
  | cross | circle | square | triangle | leftBumper | rightBumper | leftTrigger | rightTrigger
  | select | start | leftStickClick | rightStickClick | dpadUp | dpadDown | dpadLeft | dpadRight
  deriving DecidableEq, Repr

/-- The ControllerState flag of a mask name (R33, D23). -/
def Button.flag : Button → ControllerFlag
  | .select => .select
  | .joyRight => .rightStickClick
  | .joyLeft => .leftStickClick
  | .start => .start
  | .up => .dpadUp
  | .right => .dpadRight
  | .down => .dpadDown
  | .left => .dpadLeft
  | .l2 => .leftTrigger
  | .r2 => .rightTrigger
  | .l1 => .leftBumper
  | .r1 => .rightBumper
  | .triangle => .triangle
  | .circle => .circle
  | .cross => .cross
  | .square => .square

/-- The axes of the source's ControllerState (R35). -/
inductive AxisName where
  | leftStickX | leftStickY | rightStickX | rightStickY
  deriving DecidableEq, Repr

/-- AXIS_NAME_MAP at its default: the name of each AXES lane (R7, R35, R191; log 17). -/
def defaultAxisNames : Vector AxisName 4 :=
  #v[.leftStickX, .leftStickY, .rightStickX, .rightStickY]

/-- A flag of the BUTTONS word `b` (R260). -/
def flagOf (b : Word) (n : Button) : Bool := b.getLsbD n.bit

/-- Lane `k` of the AXES word `a`, read with `s8` (R9, R260). -/
def axisOf (a : Word) (k : Fin 4) : Int := (a.extractLsb' (8 * k.val) 8).toInt

/-- The value a host builds from the two register words. -/
structure ControllerState where
  flags : List (ControllerFlag × Bool)
  axes : List (AxisName × Int)
  deriving DecidableEq, Repr

/-- `controller_state(b, a)`, the lanes named through `names` (R260). -/
def controllerState (names : Vector AxisName 4) (b a : Word) : ControllerState where
  flags := allButtons.map fun n => (n.flag, flagOf b n)
  axes := [(names[0], axisOf a 0), (names[1], axisOf a 1),
           (names[2], axisOf a 2), (names[3], axisOf a 3)]

/-- The source's error kinds (R270). -/
inductive ProtocolError where
  | handshakeMismatch
  | invalidConfiguration
  | lineFault
  deriving DecidableEq, Repr

/-- The RESULT field of a STATUS word (R28, R31). -/
def resultField (status : Word) : Nat := (status.extractLsb' 4 4).toNat

/-- What `poll()` returns for the final STATUS word and the two snapshot words; none for the codes that
a completion never records (R259). -/
def pollValue (names : Vector AxisName 4) (status b a : Word) :
    Option (Except ProtocolError ControllerState) :=
  match resultField status with
  | 1 => some (.ok (controllerState names b a))
  | 2 => some (.error .handshakeMismatch)
  | 3 => some (.error .invalidConfiguration)
  | 4 => some (.error .lineFault)
  | _ => none

/-- `poll()` (R259): POLLWAIT, then a case on the RESULT field of its final STATUS word; with code 1, and
only then, BUTTONS and AXES are read. `fuel` bounds the reads of WAITIDLE (log 20). DESIGN CHOICE
(log 23): its transactions come in consecutive cycles, `rst_n` at 1 in each. -/
def hostPoll (names : Vector AxisName 4) (fuel : Nat) (s : State) :
    Option (State × Except ProtocolError ControllerState) := do
  let (t, status) ← pollWait fuel s
  if resultField status = 1 then
    let (u, b, a) ← readState t
    let r ← pollValue names status b a
    return (u, r)
  else
    let r ← pollValue names status 0 0
    return (t, r)

/-! ### The constructor (R261) -/

/-- What a host asks of `PSXController(..., deadzoneFraction = 0.0)`: a half-period, the optional settle
interval and retry bound, and the dead-zone fraction (R261). -/
structure SessionConfig where
  half : BitVec 16
  settle : Option (BitVec 24) := none
  retry : Option (BitVec 8) := none
  deadzone : Rat := 0
  deriving DecidableEq, Repr

/-- Steps 2 to 4 of the constructor: HALF, then SETTLE and RETRY where they are asked for, then `SETDZ f`
(R261). InvalidConfiguration, before anything is written, for a fraction outside [0, 1] (R215) and for
a half-period of 0, which R261 excludes (log 22). -/
def constructorWrites (c : SessionConfig) : Except ProtocolError (List HT41) :=
  if c.half = 0 then .error .invalidConfiguration
  else
    match asmSetDz c.deadzone with
    | none => .error .invalidConfiguration
    | some dzWrite =>
        .ok (asmWr .half (c.half.zeroExtend 32) ::
          ((c.settle.map fun v => asmWr .settle (v.zeroExtend 32)).toList ++
            ((c.retry.map fun v => asmWr .retry (v.zeroExtend 32)).toList ++ [dzWrite])))

/-- `s` with `rst_n` held at 0 in its cycle and no transaction, the data line and every later cycle as
before (R300). -/
def presentReset (s : State) : State :=
  { s with inputs := ⟨false, none, (ports s).dat⟩ :: s.inputs.tail }

/-- The constructor (R261): one reset edge, then the writes, one in each cycle. The answer is the state
after it, and the error of a failed construction. -/
def construct (c : SessionConfig) (s : State) : Option (State × Option ProtocolError) := do
  let t ← cycleOf (presentReset s)
  match constructorWrites c with
  | .error e => return (t, some e)
  | .ok writes =>
      let u ← presentAll writes t
      return (u, none)

/-- Construction followed by a first `poll()`; a failed construction is its value (R261, R259). DESIGN
CHOICE (log 23): the poll begins in the cycle after the last write. -/
def firstPoll (names : Vector AxisName 4) (fuel : Nat) (c : SessionConfig) (s : State) :
    Option (State × Except ProtocolError ControllerState) := do
  let (t, e) ← construct c s
  match e with
  | some err => return (t, .error err)
  | none => hostPoll names fuel t

/-- A failed construction: InvalidConfiguration, whether the host found it (`radius`, the half-period) or
`poll()` read code 3 from the block (R275). -/
def failedConstruction : Except ProtocolError ControllerState → Bool
  | .error .invalidConfiguration => true
  | .error .handshakeMismatch | .error .lineFault | .ok _ => false

end Sys2Proof.Machine
end

