-- ==== Sys2Proof/Safety.lean ====
section
/-! DEFINITION. What statements about the machine speak of: runs of many edges under the environment's
record, the invariant of every reachable state (10_state.md R50 and the rules it rests on), and the
position of a running poll in its cycle count (42_handshake.md R162). -/

namespace Sys2Proof.Machine

open Sys2Proof

/-! ### Runs -/

/-- The state after one edge. `step` always answers a next state (R86, R271); where it did not, the
state would stay. -/
def after (s : State) : State :=
  match step s with
  | .next t => t
  | .fault _ => s
  | .refused _ => s

/-- The state after `n` edges: with edge 0 the one that ends the cycle of `s`, `runN e s` is the state
before edge `e`. -/
def runN : Nat → State → State
  | 0, s => s
  | n + 1, s => runN n (after s)

/-- `rst_n` is 1 in each of the next `n` cycles. -/
abbrev noReset (n : Nat) (s : State) : Prop := ∀ p ∈ s.inputs.take n, p.rstN = true

/-- `pin(e)`: the level of `psx_dat` just before edge `e`, edge 0 being the one that ends the cycle of
`s` (R112). -/
def pinAt (s : State) (e : Nat) : Bool :=
  match s.inputs[e]? with
  | some p => p.dat
  | none => Config.psxDat (s.cycle + e)

/-- The state is one that some environment can bring about from the reset state (R302, R49). -/
def Reachable (t : State) : Prop :=
  ∃ (inputs : List PortsIn) (n : Nat), t = runN n { State.reset with inputs := inputs }

/-! ### One edge in the words of the rules -/

/-- The block takes an edge with `rst_n` at 1 and no host transaction in the cycle. -/
abbrev quiet (s : State) : Prop := (ports s).rstN = true ∧ (ports s).bus = none

/-- What every such edge does beside the state machine's own updates: the synchroniser shifts (R47). -/
def shifted (s : State) : State := { s with dsync := s.dsync.shift (ports s).dat }

/-- The same with the model's own fields: the read port carries nothing (log 4), the environment's record
moves on (logs 2 and 3). -/
def tick (s : State) : State :=
  { shifted s with
    rdata := none
    inputs := s.inputs.tail
    cycle := s.cycle + 1 }

/-- The step from `s` answers a next state that is `t` in all of the spec's state; the model's own fields
(logs 2, 3 and 4) are left open. -/
def stepsTo (s t : State) : Prop :=
  ∃ u, step s = .next u ∧ u = { t with rdata := u.rdata, inputs := u.inputs, cycle := u.cycle }

/-- `bus_step()` for the transaction `t`, case by case as R230 gives it, with the operations of R231,
R232, R238 and R250 written out. -/
def busStepRule (t : BusTxn) (s : State) : State :=
  let w := (t.addr.extractLsb' 2 6).toNat
  let D := t.wdata
  if t.we = false then { s with rdata := some (readWord (t.addr.extractLsb' 2 6) s) }
  else if w = 0 then
    if D.extractLsb' 0 8 = 0x00#8 then { s with rdata := none }
    else if D.extractLsb' 0 8 = 0x01#8 then
      if s.st ≠ .idle then { s with ign := true, rdata := none }
      else if s.halfPeriod = 0 then
        { s with attempts := 0, result := .invalidConfiguration, done := true, rdata := none }
      else
        { s with
          attempts := 1, result := .noResult, done := false
          attQ := false, st := .attn, tmr := s.halfPeriod.zeroExtend 24
          rdata := none }
    else { s with ign := true, rdata := none }
  else if w = 1 then
    { s with
      done := if D.getLsbD 1 then false else s.done
      ign := if D.getLsbD 3 then false else s.ign
      rdata := none }
  else if 5 ≤ w ∧ w ≤ 8 ∧ s.st ≠ .idle then { s with ign := true, rdata := none }
  else if w = 5 then { s with halfPeriod := D.extractLsb' 0 16, rdata := none }
  else if w = 6 then { s with settle := D.extractLsb' 0 24, rdata := none }
  else if w = 7 then { s with retryMax := D.extractLsb' 0 8, rdata := none }
  else if w = 8 then { s with dzRadius := D.extractLsb' 0 8, rdata := none }
  else { s with rdata := none }

/-! ### The invariant -/

/-- The block is inside a byte exchange (R145). -/
abbrev exchanging (s : State) : Prop :=
  s.st = .start ∨ s.st = .poll ∨ s.st = .marker ∨ s.st = .frame

/-- The byte sent in a state (R145). -/
def byteSent : St → Byte
  | .start => Config.startByte
  | .poll => Config.pollByte
  | .marker | .frame | .idle | .attn | .retry => Config.dummyByte

/-- Attention is low exactly from the start of an attempt to the end of its exchanges (R50, R155). -/
abbrev AttLine (s : State) : Prop := s.attQ = false ↔ (s.st = .attn ∨ exchanging s)

/-- The clock is low exactly in the LO half of a bit exchange (R50). -/
abbrev ClkLine (s : State) : Prop := s.clkQ = false ↔ (exchanging s ∧ s.ph = .lo)

/-- The command line carries the current bit of the byte sent, and is low outside exchanges (R50,
R128). -/
abbrev CmdLine (s : State) : Prop :=
  (exchanging s → s.tx = byteSent s.st ∧ s.cmdQ = s.tx.getLsbD s.bidx.toNat) ∧
  (¬ exchanging s → s.cmdQ = false)

/-- The phase timer of a running poll: at least 1, at most the length of its phase; the half-period is
not 0 (R22, R50, R123, R232). -/
abbrev Timer (s : State) : Prop :=
  s.st ≠ .idle → s.halfPeriod ≠ 0 ∧ 1 ≤ s.tmr.toNat ∧
    s.tmr.toNat ≤ (if s.st = .retry then max s.settle.toNat 1 else s.halfPeriod.toNat)

/-- The attempt counter (R30, R160). -/
abbrev Attempts (s : State) : Prop :=
  s.attempts.toNat ≤ 256 ∧
  (s.st ≠ .idle → 1 ≤ s.attempts.toNat ∧ s.attempts.toNat ≤ s.retryMax.toNat + 1)

/-- The result: never LINE_FAULT (R276); NONE while a poll runs, with DONE clear (R28, R231); DONE only
with a recorded result (R272); OK only with a snapshot (R273). -/
abbrev Result (s : State) : Prop :=
  s.result ≠ .lineFault ∧ (s.st ≠ .idle → s.result = .noResult) ∧
  (s.done = true → s.result ≠ .noResult) ∧ (s.result = .ok → s.valid = true)

/-- Without VALID the snapshot holds its reset values (R26). -/
abbrev Snapshot (s : State) : Prop := s.valid = false → s.buttons = 0 ∧ s.axes = 0

/-- The invariant of every reachable state. -/
abbrev Inv (s : State) : Prop :=
  AttLine s ∧ ClkLine s ∧ CmdLine s ∧ Timer s ∧ Attempts s ∧ Result s ∧ Snapshot s

/-! ### The position of a running poll in its cycle count (R128, R162, R325) -/

/-- `H`. -/
abbrev hTicks (s : State) : Nat := s.halfPeriod.toNat

/-- `S' = max(SETTLE, 1)` (R158, R162). -/
abbrev sTicks (s : State) : Nat := max s.settle.toNat 1

/-- The cycles of an attempt that ends in a mismatch: `49H + S'` (R162). -/
abbrev failedTicks (s : State) : Nat := 49 * hTicks s + sTicks s

/-- The cycles of a whole poll, from the accepting edge to the completion edge: `k(49H + S') + 145H` when
attempt `k + 1` succeeds, `(RETRY_MAX + 1)(49H + S')` when the poll fails (R162, R321). -/
def pollDuration (s : State) : PollResult → (attempts : Nat) → Nat
  | .ok, a => (a - 1) * failedTicks s + 145 * hTicks s
  | .handshakeMismatch, _ => (s.retryMax.toNat + 1) * failedTicks s
  | .noResult, _ | .invalidConfiguration, _ | .lineFault, _ => 0

/-- The longest poll over all register values, in cycles (R162, R321). -/
def longestPoll : Nat := 5117038080

/-- The cycles since the byte exchange began (R128). -/
def byteTicks (s : State) : Nat :=
  2 * hTicks s * s.bidx.toNat + (if s.ph = .hi then hTicks s else 0) + (hTicks s - s.tmr.toNat)

/-- The cycles since the attempt began (R325). -/
def attemptTicks (s : State) : Nat :=
  match s.st with
  | .idle => 0
  | .attn => hTicks s - s.tmr.toNat
  | .start => hTicks s + byteTicks s
  | .poll => 17 * hTicks s + byteTicks s
  | .marker => 33 * hTicks s + byteTicks s
  | .frame => 49 * hTicks s + 16 * hTicks s * s.fidx.val + byteTicks s
  | .retry => 49 * hTicks s + (sTicks s - s.tmr.toNat)

/-- The edges taken since the accepting edge of the running poll (R162). -/
def pollTicks (s : State) : Nat :=
  (s.attempts.toNat - 1) * failedTicks s + attemptTicks s

end Sys2Proof.Machine
end

