-- ==== Sys2Proof/Certificates/Slice0/Obligations.lean ====
section
/-! DEFINITION. Statements for the provers, from the numbered rules of spec/. A state's `inputs` list is
what the environment presents cycle by cycle (log 2); `runN e s` is the state before edge `e`, edge 0
being the one that ends the cycle of `s`. Where a rule says nothing of the model's own fields (the read
port in a cycle without a read, the environment's record; logs 2, 3 and 4), its statement leaves them
open: `∃ v, … rdata := v`, and `stepsTo`. -/

open Sys2Proof Sys2Proof.Machine

/-! ### Encoding (30_encoding.md) -/

/-- R81, R83-R85: the encoding of a well-formed host operation decodes to it, with every operand at
every value. -/
def Obligations.EncodedOperationDecodesToItself : Prop :=
  ∀ i : Instr, i.wf = true → decode (encode i) = i

/-- R84, R86: every HT41 word decodes to a well-formed operation, and no bit of it is lost. -/
def Obligations.EveryWordIsOneWellFormedOperation : Prop :=
  ∀ x : HT41, (decode x).wf = true ∧ encode (decode x) = x

/-- R85: every HT41 word is exactly one of the 36 rows of the opcode map, no two of which cover a word
together, and that row's mnemonic is the decoded operation's. -/
def Obligations.OpcodeRowsAreDisjointAndCoverEveryWord : Prop :=
  opcodeRows.length = 36 ∧
  ∀ x : HT41, ∃ r, opcodeRows.filter (fun r => r.covers x) = [r] ∧ r.mnemonic = mnemonicOf (decode x)

/-- R63, R81, R82: `A[1:0]`, the data of a read and `D[31:8]` of a CTRL write change nothing that an
operation does. -/
def Obligations.IgnoredBitsOfAWordHaveNoEffect : Prop :=
  ∀ (x y : HT41) (s : State), htWrite x = htWrite y → htSlot x = htSlot y →
    (htWrite x = true → htData x = htData y ∨
      (htSlot x = 0#6 ∧ cmdOf (htData x) = cmdOf (htData y))) →
    exec (decode x) s = exec (decode y) s

/-- R84, R85 on words written out from the map: one for each group of rows. -/
def Obligations.SampleWordsDecodeAsTheMapSays : Prop :=
  decode 0x10300000001#41 = .poll 3 0 ∧ decode 0x100FFFFFF00#41 = .nop 0 0xFFFFFF ∧
  decode 0x100000000FF#41 = .cmdRsvd 0 0 0xFF ∧ decode 0x00400000000#41 = .rdStatus 0 0 ∧
  decode 0x11400000004#41 = .wrHalf 0 4 ∧ decode 0x12300000033#41 = .wrDz 3 0x33 ∧
  decode 0x02400000000#41 = .rdRsvd 9 0 0 ∧ decode 0x1FC00000001#41 = .wrRsvd 63 0 1

/-! ### The step (42_handshake.md R142) -/

/-- A cycle that presents the word of an operation runs that operation on the pre-edge state, and the
edge adds the state machine's step, the synchroniser's shift or the reset (`clockEdge`); a cycle with
no transaction runs none. The read port without a read and the depth of the synchroniser, which no edge
changes, are the model's choice (logs 4, 5 and 6). -/
def Obligations.StepRunsThePresentedOperation : Prop :=
  (∀ (s : State) (t : BusTxn), (ports s).bus = some t →
    ∃ b, exec (decode t.word) s = .next b ∧ step s = .next (clockEdge s b)) ∧
  (∀ s : State, (ports s).bus = none → step s = .next (clockEdge s { s with rdata := none })) ∧
  (∀ s b : State, (ports s).rstN = true →
    clockEdge s b = nextCycle (dsyncShift (ports s).dat s (fsmStep s b))) ∧
  (∀ s b : State, (ports s).rstN = false → clockEdge s b = nextCycle (resetBlock b)) ∧
  (∀ s t : State, step s = .next t → t.dsync.depth = s.dsync.depth)

/-- The word of a well-formed operation, placed with `withFetchWord`, is the operation that the next step
runs, on the pre-edge state with the data line as it was (the model's choice, log 11). -/
def Obligations.PlacedWordIsTheNextOperation : Prop :=
  ∀ (i : Instr) (s : State), i.wf = true →
    let s' := s.withFetchWord 48 (encode i).toNat
    (ports s').rstN = true ∧ (ports s').dat = (ports s).dat ∧ s'.inputs.tail = s.inputs.tail ∧
    s' = { s with inputs := s'.inputs } ∧
    ∃ b, exec i s' = .next b ∧ step s' = .next (clockEdge s' b)

/-- R86, R271: nothing the host presents stops the machine. -/
def Obligations.EveryStepAnswersANextState : Prop :=
  ∀ s : State, ∃ t, step s = .next t

/-- R230: the operation that any transaction's word decodes to is `bus_step()` for it, case by case; the
read port in the cycle of a write is the model's choice (log 4). -/
def Obligations.DecodedOperationIsTheBusStep : Prop :=
  ∀ (t : BusTxn) (s : State), exec (decode t.word) s = .next (busStepRule t s)

/-! ### Host operations (45_host_registers.md) -/

/-- R235: NOP writes no state, whatever `st` is. -/
def Obligations.NopChangesNoState : Prop :=
  decode 0x10000000000#41 = .nop 0 0 ∧
  ∀ (al : BitVec 2) (hi : BitVec 24) (s : State), ∃ v,
    exec (.nop al hi) s = .next { s with rdata := v }

/-- R231: an accepted POLL. -/
def Obligations.PollWhenIdleStartsAnAttempt : Prop :=
  decode 0x10000000001#41 = .poll 0 0 ∧
  ∀ (al : BitVec 2) (hi : BitVec 24) (s : State), s.st = .idle → 1 ≤ s.halfPeriod.toNat → ∃ v,
    exec (.poll al hi) s = .next
      { s with
        attempts := 1, result := .noResult, done := false
        attQ := false, st := .attn, tmr := s.halfPeriod.zeroExtend 24
        rdata := v }

/-- R232: a POLL with `HALF_PERIOD = 0`, which is the result of a POLL straight after reset. -/
def Obligations.PollWithZeroHalfPeriodRecordsInvalidConfiguration : Prop :=
  ∀ (al : BitVec 2) (hi : BitVec 24),
    (∀ s : State, s.st = .idle → s.halfPeriod = 0 → ∃ v,
      exec (.poll al hi) s = .next
        { s with attempts := 0, result := .invalidConfiguration, done := true, rdata := v }) ∧
    ∃ t, exec (.poll al hi) State.reset = .next t ∧ statusWord t = 0x00000032

/-- R234: a reserved command code sets IGN and nothing else, whatever `st` is. -/
def Obligations.ReservedCommandOnlySetsIgn : Prop :=
  ∀ (al : BitVec 2) (hi : BitVec 24) (cmd : Byte) (s : State), 2 ≤ cmd.toNat → ∃ v,
    exec (.cmdRsvd al hi cmd) s = .next { s with ign := true, rdata := v }

/-- R236-R241, R245, R252-R258: every read returns its register's word of the pre-edge state and writes
no state. -/
def Obligations.ReadsReturnTheirRegisterAndWriteNoState : Prop :=
  ∀ (al : BitVec 2) (d : Word) (slot : SlotIdx) (s : State),
    exec (.rdCtrl al d) s = .next { s with rdata := some 0 } ∧
    exec (.rdStatus al d) s = .next { s with rdata := some (statusWord s) } ∧
    exec (.rdButtons al d) s = .next { s with rdata := some (s.buttons.zeroExtend 32) } ∧
    exec (.rdAxes al d) s = .next { s with rdata := some s.axes } ∧
    exec (.rdCtype al d) s = .next { s with rdata := some (s.ctype.zeroExtend 32) } ∧
    exec (.rdHalf al d) s = .next { s with rdata := some (s.halfPeriod.zeroExtend 32) } ∧
    exec (.rdSettle al d) s = .next { s with rdata := some (s.settle.zeroExtend 32) } ∧
    exec (.rdRetry al d) s = .next { s with rdata := some (s.retryMax.zeroExtend 32) } ∧
    exec (.rdDz al d) s = .next { s with rdata := some (s.dzRadius.zeroExtend 32) } ∧
    exec (.rdRsvd slot al d) s = .next { s with rdata := some 0 }

/-- R238: a write of STATUS clears DONE and IGN where the data has a 1, and writes nothing else. -/
def Obligations.StatusWriteClearsDoneAndIgnByOnes : Prop :=
  ∀ (al : BitVec 2) (d : Word) (s : State), ∃ v,
    exec (.wrStatus al d) s = .next
      { s with
        done := if d.getLsbD 1 then false else s.done
        ign := if d.getLsbD 3 then false else s.ign
        rdata := v }

/-- R242-R244, R246: writes of read-only registers and of reserved offsets change no state. -/
def Obligations.ReadOnlyAndReservedWritesAreIgnored : Prop :=
  ∀ (al : BitVec 2) (d : Word) (slot : SlotIdx) (s : State),
    (∃ v, exec (.wrButtons al d) s = .next { s with rdata := v }) ∧
    (∃ v, exec (.wrAxes al d) s = .next { s with rdata := v }) ∧
    (∃ v, exec (.wrCtype al d) s = .next { s with rdata := v }) ∧
    (∃ v, exec (.wrRsvd slot al d) s = .next { s with rdata := v })

/-- R250, R251, R253, R255, R257: a configuration write stores its field while the block is idle; while a
poll runs it is dropped and sets IGN. -/
def Obligations.ConfigurationWritesStoreWhenIdleAndDropWhenBusy : Prop :=
  ∀ (al : BitVec 2) (d : Word) (s : State),
    (s.st = .idle →
      (∃ v, exec (.wrHalf al d) s = .next { s with halfPeriod := d.extractLsb' 0 16, rdata := v }) ∧
      (∃ v, exec (.wrSettle al d) s = .next { s with settle := d.extractLsb' 0 24, rdata := v }) ∧
      (∃ v, exec (.wrRetry al d) s = .next { s with retryMax := d.extractLsb' 0 8, rdata := v }) ∧
      (∃ v, exec (.wrDz al d) s = .next { s with dzRadius := d.extractLsb' 0 8, rdata := v })) ∧
    (s.st ≠ .idle →
      (∃ v, exec (.wrHalf al d) s = .next { s with ign := true, rdata := v }) ∧
      (∃ v, exec (.wrSettle al d) s = .next { s with ign := true, rdata := v }) ∧
      (∃ v, exec (.wrRetry al d) s = .next { s with ign := true, rdata := v }) ∧
      (∃ v, exec (.wrDz al d) s = .next { s with ign := true, rdata := v }))

/-- R233: a POLL while busy sets IGN only, and the poll in progress goes on exactly as if the write had
not happened: the edge is that of the same cycle with no transaction, but for IGN. -/
def Obligations.PollWhileBusyOnlySetsIgn : Prop :=
  ∀ (al : BitVec 2) (hi : BitVec 24) (s : State) (dat : Bool) (later : List PortsIn),
    s.st ≠ .idle →
    (∃ v, exec (.poll al hi) s = .next { s with ign := true, rdata := v }) ∧
    ∃ v, step { s with inputs := ⟨true, some (busTxnOf (encode (.poll al hi))), dat⟩ :: later } =
      .next { after { s with inputs := ⟨true, none, dat⟩ :: later } with ign := true, rdata := v }

/-- R31: the STATUS word, field by field, with the codes of R28 and R29. -/
def Obligations.StatusWordPacksItsFields : Prop :=
  (∀ s : State, (statusWord s).toNat =
      s.attempts.toNat * 2 ^ 16 + s.st.code.toNat * 2 ^ 8 + s.result.code.toNat * 2 ^ 4 +
      s.ign.toNat * 8 + s.valid.toNat * 4 + s.done.toNat * 2 + (if s.st = .idle then 0 else 1)) ∧
  [St.idle, .attn, .start, .poll, .marker, .frame, .retry].map St.code = [0, 1, 2, 3, 4, 5, 6] ∧
  [PollResult.noResult, .ok, .handshakeMismatch, .invalidConfiguration, .lineFault].map
    PollResult.code = [0, 1, 2, 3, 4]

/-- R66: through a byte bridge the register space is little-endian: the four bytes of a slot, the one at
`offset + 3` uppermost, are its word. -/
def Obligations.ByteBridgeIsLittleEndian : Prop :=
  ∀ (slot : SlotIdx) (s : State),
    bridgeByte (slot ++ 3#2) s ++ (bridgeByte (slot ++ 2#2) s ++
      (bridgeByte (slot ++ 1#2) s ++ bridgeByte (slot ++ 0#2) s)) = readWord slot s

/-- R318: a configuration write and an accepted POLL are seen by a read in the very next cycle. -/
def Obligations.WriteIsSeenByTheNextCyclesRead : Prop :=
  ∀ (al al' : BitVec 2) (d d' : Word) (hi : BitVec 24) (s : State), s.st = .idle → noReset 2 s →
    (fetch s = some (.wrHalf al d) → fetch (after s) = some (.rdHalf al' d') →
      (runN 2 s).rdata = some ((d.extractLsb' 0 16).zeroExtend 32)) ∧
    (fetch s = some (.wrSettle al d) → fetch (after s) = some (.rdSettle al' d') →
      (runN 2 s).rdata = some ((d.extractLsb' 0 24).zeroExtend 32)) ∧
    (fetch s = some (.wrRetry al d) → fetch (after s) = some (.rdRetry al' d') →
      (runN 2 s).rdata = some ((d.extractLsb' 0 8).zeroExtend 32)) ∧
    (fetch s = some (.wrDz al d) → fetch (after s) = some (.rdDz al' d') →
      (runN 2 s).rdata = some ((d.extractLsb' 0 8).zeroExtend 32)) ∧
    (fetch s = some (.poll al hi) → s.halfPeriod ≠ 0 → fetch (after s) = some (.rdStatus al' d') →
      ∃ v, (runN 2 s).rdata = some v ∧ v.getLsbD 0 = true)

/-! ### The state machine (41_transceiver.md, 42_handshake.md), on edges with no transaction -/

/-- R123: while a phase has more than one cycle left, an edge only counts it down. -/
def Obligations.RunningPhaseOnlyCountsDown : Prop :=
  ∀ s : State, quiet s → s.st ≠ .idle → 1 < s.tmr.toNat →
    ∃ n : BitVec 24, n.toNat = s.tmr.toNat - 1 ∧ stepsTo s { shifted s with tmr := n }

/-- R144: the attention setup ends with the start byte begun, its bit 0 on the command line. -/
def Obligations.AttentionSetupEndsInTheStartByte : Prop :=
  ∀ s : State, quiet s → s.st = .attn → s.tmr = 1 →
    stepsTo s
      { shifted s with
        st := .start, tx := 0x01#8, rx := 0, bidx := 0, ph := .lo
        cmdQ := true, clkQ := false, tmr := s.halfPeriod.zeroExtend 24 }

/-- R125: a LO phase ends by sampling the synchronised data line into `rx[bidx]` and raising the clock. -/
def Obligations.LowPhaseEndsInASample : Prop :=
  ∀ s : State, quiet s → exchanging s → s.ph = .lo → s.tmr = 1 →
    ∃ c : Byte, (∀ j < 8, c.getLsbD j = if j = s.bidx.toNat then lineGet s else s.rx.getLsbD j) ∧
      stepsTo s
        { shifted s with rx := c, clkQ := true, ph := .hi, tmr := s.halfPeriod.zeroExtend 24 }

/-- R126: a HI phase before the last bit ends by driving the next bit and lowering the clock. -/
def Obligations.HighPhaseEndsInTheNextBit : Prop :=
  ∀ s : State, quiet s → exchanging s → s.ph = .hi → s.bidx.toNat < 7 → s.tmr = 1 →
    ∃ k : BitVec 3, k.toNat = s.bidx.toNat + 1 ∧
      stepsTo s
        { shifted s with
          bidx := k, cmdQ := s.tx.getLsbD (s.bidx.toNat + 1), clkQ := false, ph := .lo
          tmr := s.halfPeriod.zeroExtend 24 }

/-- R147, R150: the start byte's response is discarded and the poll byte begins; the poll byte's response
is stored in CTYPE as exchanged and the dummy byte begins. -/
def Obligations.StartAndPollBytesLeadToTheMarkerExchange : Prop :=
  ∀ s : State, quiet s → s.ph = .hi → s.bidx = 7 → s.tmr = 1 →
    (s.st = .start → stepsTo s
      { shifted s with
        st := .poll, tx := 0x42#8, rx := 0, bidx := 0, ph := .lo
        cmdQ := false, clkQ := false, tmr := s.halfPeriod.zeroExtend 24 }) ∧
    (s.st = .poll → stepsTo s
      { shifted s with
        ctype := s.rx, st := .marker, tx := 0x00#8, rx := 0, bidx := 0, ph := .lo
        cmdQ := false, clkQ := false, tmr := s.halfPeriod.zeroExtend 24 })

/-- R151, R152, R158: the commencing-data byte decides: 0x5A and no other value starts the frame capture,
every other value raises attention for `max(SETTLE, 1)` cycles. -/
def Obligations.MarkerByteDecidesBetweenFrameAndRetry : Prop :=
  ∀ s : State, quiet s → s.st = .marker → s.ph = .hi → s.bidx = 7 → s.tmr = 1 →
    (s.rx = 0x5A#8 → stepsTo s
      { shifted s with
        fidx := 0, st := .frame, tx := 0x00#8, rx := 0, bidx := 0, ph := .lo
        cmdQ := false, clkQ := false, tmr := s.halfPeriod.zeroExtend 24 }) ∧
    (s.rx ≠ 0x5A#8 → ∃ n : BitVec 24, n.toNat = max s.settle.toNat 1 ∧
      stepsTo s { shifted s with attQ := true, st := .retry, tmr := n })

/-- R153: a frame byte before the last is stored in wire order and the next dummy byte begins. -/
def Obligations.FrameByteIsStoredAndTheNextBegins : Prop :=
  ∀ s : State, quiet s → s.st = .frame → s.ph = .hi → s.bidx = 7 → s.tmr = 1 → s.fidx.val < 5 →
    ∃ (raw : Vector Byte 6) (k : Fin 6), k.val = s.fidx.val + 1 ∧
      (∀ j : Fin 6, raw[j] = if j = s.fidx then s.rx else s.raw[j]) ∧
      stepsTo s
        { shifted s with
          raw := raw, fidx := k, tx := 0x00#8, rx := 0, bidx := 0, ph := .lo
          cmdQ := false, clkQ := false, tmr := s.halfPeriod.zeroExtend 24 }

/-- R154, R157, R190: the last frame byte ends the poll: attention high, the snapshot decoded from the
five stored bytes and this one, VALID, RESULT OK and DONE, all at one edge. -/
def Obligations.LastFrameByteCommitsTheSnapshot : Prop :=
  ∀ s : State, quiet s → s.st = .frame → s.ph = .hi → s.bidx = 7 → s.tmr = 1 → s.fidx = 5 →
    stepsTo s
      { shifted s with
        raw := #v[s.raw[0], s.raw[1], s.raw[2], s.raw[3], s.raw[4], s.rx]
        attQ := true
        buttons := inv8 (rev8 s.raw[1]) ++ inv8 (rev8 s.raw[0])
        axes := axis (rev8 s.rx) s.dzRadius ++ (axis (rev8 s.raw[4]) s.dzRadius ++
          (axis (rev8 s.raw[3]) s.dzRadius ++ axis (rev8 s.raw[2]) s.dzRadius))
        valid := true, result := .ok, done := true, st := .idle }

/-- R160: the settle interval ends with one more attempt while `ATTEMPTS <= RETRY_MAX`, else with
HANDSHAKE_MISMATCH. -/
def Obligations.SettleEndRetriesOrRecordsMismatch : Prop :=
  ∀ s : State, quiet s → s.st = .retry → s.tmr = 1 →
    (s.attempts.toNat ≤ s.retryMax.toNat → ∃ a : BitVec 9, a.toNat = s.attempts.toNat + 1 ∧
      stepsTo s
        { shifted s with
          attempts := a, attQ := false, st := .attn, tmr := s.halfPeriod.zeroExtend 24 }) ∧
    (s.retryMax.toNat < s.attempts.toNat → stepsTo s
      { shifted s with result := .handshakeMismatch, done := true, st := .idle })

/-- R142, R289: while idle an edge with no transaction changes nothing but the synchroniser. The model's
own fields move on as logs 2, 3 and 4 say. -/
def Obligations.IdleEdgeChangesOnlyTheSynchroniser : Prop :=
  ∀ s : State, quiet s → s.st = .idle → step s = .next (tick s)

/-! ### Reset (70_reset_and_hazards.md) -/

/-- R49: the reset value of every element of state. -/
def Obligations.ResetLeavesTheStatedValues : Prop :=
  let r := State.reset
  statusWord r = 0 ∧ r.buttons = 0 ∧ r.axes = 0 ∧ r.ctype = 0 ∧ r.halfPeriod = 0 ∧ r.settle = 0 ∧
  r.retryMax = 0 ∧ r.dzRadius = 0 ∧ r.st = .idle ∧ r.tmr = 0 ∧ r.ph = .hi ∧ r.bidx = 0 ∧
  r.fidx = 0 ∧ r.tx = 0 ∧ r.rx = 0 ∧ r.raw = #v[0, 0, 0, 0, 0, 0] ∧ r.cmdQ = false ∧
  r.clkQ = true ∧ r.attQ = true ∧ r.dsync.stages = [true, true]

/-- R300, R280 item 1: an edge with `rst_n` at 0 gives every element its reset value, whatever the state
machine and the host's transaction would have done; a read of that cycle still returns the pre-edge
value. -/
def Obligations.ResetEdgeOverridesEverything : Prop :=
  ∀ s : State, (ports s).rstN = false → ∃ t, step s = .next t ∧
    t = { State.reset with
          dsync := t.dsync, rdata := t.rdata, inputs := t.inputs, cycle := t.cycle } ∧
    (∀ level ∈ t.dsync.stages, level = true) ∧
    (∀ i, fetch s = some i → ∃ b, exec i s = .next b ∧ t.rdata = b.rdata)

/-! ### Simultaneous events and isolation (60_exceptions.md R280) -/

/-- R142, R280 item 7: the state machine and the bus write disjoint state, DONE apart: while idle the
state machine does nothing; while a poll runs the bus writes only DONE, IGN and the read port, and the
state machine's updates are the same whatever the bus did. -/
def Obligations.BusAndStateMachineWriteDisjointState : Prop :=
  ∀ (i : Instr) (s b : State), exec i s = .next b →
    (s.st = .idle → fsmStep s b = b) ∧
    (s.st ≠ .idle →
      b = { s with done := b.done, ign := b.ign, rdata := b.rdata } ∧
      fsmStep s b = { fsmStep s s with
                      done := (fsmStep s b).done, ign := b.ign, rdata := b.rdata })

/-- R280 item 2, R272: a completion edge leaves DONE set and a result recorded, whatever transaction,
a clear of DONE included, the host presents in that cycle. -/
def Obligations.CompletionSetsDoneOverAnyClear : Prop :=
  ∀ s t : State, (ports s).rstN = true → s.st ≠ .idle → step s = .next t → t.st = .idle →
    t.done = true ∧ (t.result = .ok ∨ t.result = .handshakeMismatch)

/-- R280 items 3 and 5, R250: a POLL or a configuration write in a busy cycle, the completion cycle
included, sets IGN; no poll starts and no configuration changes by it. -/
def Obligations.BusyCommandsAreDroppedAtTheCompletionEdgeToo : Prop :=
  ∀ (al : BitVec 2) (hi : BitVec 24) (d : Word) (i : Instr) (s t : State),
    (i = .poll al hi ∨ i = .wrHalf al d ∨ i = .wrSettle al d ∨ i = .wrRetry al d ∨ i = .wrDz al d) →
    (ports s).rstN = true → s.st ≠ .idle → fetch s = some i → step s = .next t →
    t.ign = true ∧ t.halfPeriod = s.halfPeriod ∧ t.settle = s.settle ∧ t.retryMax = s.retryMax ∧
    t.dzRadius = s.dzRadius ∧ (t.st = .attn → s.st = .attn ∨ s.st = .retry)

/-- R164, R247, R319: no host traffic changes a running poll or its timing: two runs that differ only in
what the host presents agree, while the poll runs and at the edge that ends it, in everything but DONE,
IGN, the read port and the host's own record. -/
def Obligations.HostTrafficCannotDisturbARunningPoll : Prop :=
  ∀ (s : State) (l₁ l₂ : List PortsIn) (n : Nat),
    l₁.map (fun p => (p.rstN, p.dat)) = l₂.map (fun p => (p.rstN, p.dat)) →
    (∀ k < n, (runN k { s with inputs := l₁ }).st ≠ .idle) →
    let u := runN n { s with inputs := l₁ }
    let v := runN n { s with inputs := l₂ }
    v = { u with done := v.done, ign := v.ign, rdata := v.rdata, inputs := v.inputs }

/-! ### Invariants -/

/-- The invariant `Inv` (the line levels of R50 with what they rest on, R22, R26, R30, R276) holds in the
reset state. -/
def Obligations.InvariantHoldsAtReset : Prop := Inv State.reset

/-- Every step keeps `Inv`, whatever the environment presents. -/
def Obligations.EveryStepKeepsTheInvariant : Prop :=
  ∀ s t : State, Inv s → step s = .next t → Inv t

/-- R50: the line and timer invariants hold in every reachable state. -/
def Obligations.LineInvariantsHoldInEveryReachableState : Prop :=
  ∀ s : State, Reachable s →
    (busy s = true ↔ s.st ≠ .idle) ∧
    (s.attQ = false ↔ s.st ∈ [St.attn, .start, .poll, .marker, .frame]) ∧
    (s.clkQ = false → s.st ∈ [St.start, .poll, .marker, .frame] ∧ s.ph = .lo) ∧
    (s.st ∈ [St.idle, .attn, .retry] → s.cmdQ = false) ∧
    (s.st ≠ .idle → 1 ≤ s.tmr.toNat)

/-- R28-R31, R276: in every reachable state the STATUS word holds no reserved code: RESULT is at most 3,
STATE at most 6, ATTEMPTS at most 256, and the reserved bits are 0. -/
def Obligations.ReachableStatusHoldsNoReservedCode : Prop :=
  ∀ s : State, Reachable s →
    ((statusWord s).extractLsb' 4 4).toNat ≤ 3 ∧ ((statusWord s).extractLsb' 8 4).toNat ≤ 6 ∧
    ((statusWord s).extractLsb' 16 9).toNat ≤ 256 ∧ (statusWord s).extractLsb' 12 4 = 0 ∧
    (statusWord s).extractLsb' 25 7 = 0

/-- R41, R156, R26: outside reset, BUTTONS, AXES and VALID change only at the edge that ends the sixth
frame byte of an attempt, which completes the poll with OK; VALID is never cleared. -/
def Obligations.SnapshotChangesOnlyOnSuccess : Prop :=
  ∀ s t : State, (ports s).rstN = true → step s = .next t →
    (s.valid = true → t.valid = true) ∧
    ((t.buttons ≠ s.buttons ∨ t.axes ≠ s.axes ∨ t.valid ≠ s.valid) →
      s.st = .frame ∧ s.fidx = 5 ∧ s.ph = .hi ∧ s.bidx = 7 ∧ t.st = .idle ∧ t.result = .ok ∧
      t.valid = true)

/-- R156, R151: the frame capture is entered only from the marker exchange, and only on the byte 0x5A. -/
def Obligations.FrameIsCapturedOnlyAfterTheMarker : Prop :=
  ∀ s t : State, step s = .next t → t.st = .frame → s.st ≠ .frame → s.st = .marker ∧ s.rx = 0x5A#8

/-- R43: outside reset the configuration is constant while a poll runs. -/
def Obligations.ConfigurationIsConstantDuringAPoll : Prop :=
  ∀ s t : State, (ports s).rstN = true → s.st ≠ .idle → step s = .next t →
    t.halfPeriod = s.halfPeriod ∧ t.settle = s.settle ∧ t.retryMax = s.retryMax ∧
    t.dzRadius = s.dzRadius

/-- R131, R111: outside reset, an edge that changes the command line also lowers the clock, or leaves it
low for a new low phase; it never changes it inside a low phase. -/
def Obligations.CommandLineChangesOnlyWithAFallingClock : Prop :=
  ∀ s t : State, Inv s → (ports s).rstN = true → step s = .next t → t.cmdQ ≠ s.cmdQ →
    s.clkQ = true ∧ t.clkQ = false

/-! ### Timing and termination -/

/-- R162, R325: `pollTicks` counts the cycles of a running poll: every edge outside reset either leaves
the poll running with one more cycle counted, or completes it in exactly the cycles R162 gives for its
result. -/
def Obligations.EveryEdgeOfAPollIsOneCycleOfItsDuration : Prop :=
  ∀ s t : State, Inv s → s.st ≠ .idle → (ports s).rstN = true → step s = .next t →
    (t.st ≠ .idle ∧ pollTicks t = pollTicks s + 1) ∨
    (t.st = .idle ∧ (t.result = .ok ∨
        (t.result = .handshakeMismatch ∧ t.attempts.toNat = t.retryMax.toNat + 1)) ∧
      pollTicks s + 1 = pollDuration t t.result t.attempts.toNat)

/-- R162, R321, R273, R274: a poll accepted at edge 0 completes at some edge `n`, and not before: with OK
on attempt `k + 1` and `n = k(49H + S') + 145H`, or with HANDSHAKE_MISMATCH after `RETRY_MAX + 1`
attempts and `n = (RETRY_MAX + 1)(49H + S')`. -/
def Obligations.AcceptedPollCompletesInTheStatedCycles : Prop :=
  ∀ (al : BitVec 2) (hi : BitVec 24) (s : State), Inv s → s.st = .idle → s.halfPeriod ≠ 0 →
    fetch s = some (.poll al hi) → noReset (longestPoll + 1) s →
    ∃ n ≤ longestPoll,
      (∀ k, 1 ≤ k → k ≤ n → (runN k s).st ≠ .idle) ∧ (runN (n + 1) s).st = .idle ∧
      ((runN (n + 1) s).result = .ok ∧ 1 ≤ (runN (n + 1) s).attempts.toNat ∧
          (runN (n + 1) s).attempts.toNat ≤ s.retryMax.toNat + 1 ∧
          n = ((runN (n + 1) s).attempts.toNat - 1) * failedTicks s + 145 * hTicks s ∨
        (runN (n + 1) s).result = .handshakeMismatch ∧
          (runN (n + 1) s).attempts.toNat = s.retryMax.toNat + 1 ∧
          n = (s.retryMax.toNat + 1) * failedTicks s)

/-- R89, R321: WAITIDLE always ends: in at most one read more than the longest poll has cycles, a read of
STATUS returns BUSY = 0, and the block is then idle. So `poll()` (R259) always returns, with the outcome
that the block has recorded, and with OK the snapshot. That the host's transactions come in consecutive
cycles, with no reset among them, is the model's choice (log 23). -/
def Obligations.WaitIdleAlwaysEnds : Prop :=
  (∀ s : State, Inv s → ∃ t v, waitIdle (longestPoll + 1) s = some (t, v) ∧ v.getLsbD 0 = false ∧
    t.st = .idle) ∧
  (∀ (names : Vector AxisName 4) (s : State), Inv s →
    ∃ t r, hostPoll names (longestPoll + 1) s = some (t, r) ∧ t.st = .idle ∧
      (t.result = .ok ∧ r = .ok (controllerState names (buttonsWord t) (axesWord t)) ∨
        t.result = .handshakeMismatch ∧ r = .error .handshakeMismatch ∨
        t.result = .invalidConfiguration ∧ r = .error .invalidConfiguration))

/-! ### Sampling (40_line_driver.md R112, 41_transceiver.md R129) -/

/-- R112, R47: the level that `LineGet(DAT)` gives at an edge is the pin's level SYNC_STAGES edges
before. -/
def Obligations.LineGetReturnsThePinSyncStagesAgo : Prop :=
  ∀ (s : State) (e : Nat), noReset (e + s.dsync.depth) s →
    lineGet (runN (e + s.dsync.depth) s) = pinAt s e

/-- R128, R129: a byte exchange begun with half-period `H` samples bit `i` at the end of that bit's LO
phase, `2iH + H` edges after its beginning, and is complete after `16H`: in its last cycle `rx` holds
the eight sampled bits, least significant first, and the lines have carried the sent byte. -/
def Obligations.ByteExchangeAssemblesItsEightSamples : Prop :=
  ∀ s : State, exchanging s → s.ph = .lo → s.bidx = 0 → s.rx = 0 → s.halfPeriod ≠ 0 →
    s.tmr.toNat = hTicks s → noReset (16 * hTicks s) s →
    let t := runN (16 * hTicks s - 1) s
    t.st = s.st ∧ t.ph = .hi ∧ t.bidx = 7 ∧ t.tmr = 1 ∧ t.fidx = s.fidx ∧ t.attempts = s.attempts ∧
    (∀ i < 8, t.rx.getLsbD i = lineGet (runN (2 * hTicks s * i + hTicks s - 1) s)) ∧
    (∀ i < 8, 1 ≤ i → psxCmd (runN (2 * hTicks s * i) s) = s.tx.getLsbD i)

/-! ### The frame decoder and the dead-zone filter -/

/-- R180: `rev8` moves bit `7 - i` to bit `i`, is its own inverse, and leaves exactly the sixteen listed
bytes as they are. -/
def Obligations.BitReversalMovesEveryBitAndIsItsOwnInverse : Prop :=
  (∀ (b : Byte) (i : Nat), i < 8 → (rev8 b).getLsbD i = b.getLsbD (7 - i)) ∧
  (∀ b : Byte, rev8 (rev8 b) = b) ∧
  (∀ b : Byte, rev8 b = b ↔
    b.toNat ∈ [0x00, 0x18, 0x24, 0x3C, 0x42, 0x5A, 0x66, 0x7E, 0x81, 0x99, 0xA5, 0xBD, 0xC3, 0xDB,
      0xE7, 0xFF])

/-- R187: in terms of the wire, a button is pressed exactly when its wire bit is 0. -/
def Obligations.ButtonIsPressedWhenItsWireBitIsZero : Prop :=
  ∀ (raw : Vector Byte 6) (r : Byte) (k : Nat), k < 8 →
    (decodeFrame raw r).1.getLsbD k = !(raw[0].getLsbD (7 - k)) ∧
    (decodeFrame raw r).1.getLsbD (8 + k) = !(raw[1].getLsbD (7 - k))

/-- R184, R185, R33: every flag of BUTTONS is the mask test of its byte and mask, and no other button's
bit is the same bit. -/
def Obligations.EachButtonFlagIsItsOwnMaskTest : Prop :=
  (∀ (raw : Vector Byte 6) (r : Byte) (n : Button),
    (decodeFrame raw r).1.getLsbD n.bit = maskTest n (inv8 (rev8 raw[0])) (inv8 (rev8 raw[1]))) ∧
  (∀ n m : Button, n.bit = m.bit → n = m) ∧
  (∀ n : Button, n.bit < 16 ∧ n.mask = 1#8 <<< (n.bit % 8) ∧ n.byteIdx.val = n.bit / 8)

/-- R189, R35, R260: lane `k` of AXES, read as a signed byte, is the filtered corrected byte `k + 2` of
the frame minus 128, and lies in [-128, 127]. -/
def Obligations.AxisLaneIsTheFilteredByteMinus128 : Prop :=
  ∀ (raw : Vector Byte 6) (r : Byte) (k : Fin 4),
    axisOf (decodeFrame raw r).2 k = (dz (rev8 raw[k.val + 2]) r).toNat - 128 ∧
    -128 ≤ axisOf (decodeFrame raw r).2 k ∧ axisOf (decodeFrame raw r).2 k ≤ 127

/-- R210-R212, R214: the filter maps exactly the integers strictly between `128 - r` and `128 + r` to 128
and every other input to itself; it is the identity for radius 0 and 1, and for radius 129 and more it
maps every input to 128. -/
def Obligations.DeadZoneCentresExactlyTheOpenBand : Prop :=
  ∀ x r : Byte,
    ((128 < x.toNat + r.toNat ∧ x.toNat < 128 + r.toNat) → dz x r = 128#8) ∧
    (¬ (128 < x.toNat + r.toNat ∧ x.toNat < 128 + r.toNat) → dz x r = x) ∧
    (r.toNat ≤ 1 → dz x r = x) ∧ (129 ≤ r.toNat → dz x r = 128#8) ∧
    (1 ≤ r.toNat → r.toNat ≤ 128 →
      (dz x r = 128#8 ↔ 129 - r.toNat ≤ x.toNat ∧ x.toNat ≤ 127 + r.toNat))

/-- R213: the filter is idempotent. -/
def Obligations.DeadZoneIsIdempotent : Prop := ∀ x r : Byte, dz (dz x r) r = dz x r

/-- R215: `radius(f)` fails exactly outside [0, 1]; inside it is the least integer not below `255 f`, in
0..255. -/
def Obligations.RadiusIsTheExactCeiling : Prop :=
  ∀ f : Rat,
    (radius f = none ↔ ¬ (0 ≤ f ∧ f ≤ 1)) ∧
    (∀ r : Byte, radius f = some r → (r.toNat : Rat) - 1 < 255 * f ∧ 255 * f ≤ (r.toNat : Rat))

/-- R261, R275: the constructor fails with InvalidConfiguration exactly for a half-period of 0 (that this is
found before the first poll is the model's choice, log 22) or a fraction outside [0, 1], and has then
written nothing after its reset; else it leaves the block reset and configured as asked, an option not
asked for at its reset value. The writes alone, presented to any idle block, change only the
configuration: VALID and the snapshot stay. -/
def Obligations.ConstructorWritesConfigureTheBlock : Prop :=
  (∀ c : SessionConfig, (constructorWrites c = .error .invalidConfiguration ↔
    (c.half = 0 ∨ ¬ (0 ≤ c.deadzone ∧ c.deadzone ≤ 1))) ∧
    ∀ e, constructorWrites c = .error e → e = .invalidConfiguration) ∧
  (∀ (c : SessionConfig) (ws : List HT41) (r : Byte) (s : State),
    constructorWrites c = .ok ws → radius c.deadzone = some r → s.st = .idle →
    ∃ t, presentAll ws s = some t ∧
      t = { s with
            halfPeriod := c.half, settle := c.settle.getD s.settle, retryMax := c.retry.getD s.retryMax
            dzRadius := r
            rdata := t.rdata, dsync := t.dsync, inputs := t.inputs, cycle := t.cycle }) ∧
  (∀ (c : SessionConfig) (e : ProtocolError) (s : State), constructorWrites c = .error e →
    ∃ t, construct c s = some (t, some e) ∧
      t = { State.reset with
            rdata := t.rdata, dsync := t.dsync, inputs := t.inputs, cycle := t.cycle }) ∧
  (∀ (c : SessionConfig) (ws : List HT41) (r : Byte) (s : State),
    constructorWrites c = .ok ws → radius c.deadzone = some r →
    ∃ t, construct c s = some (t, none) ∧
      t = { State.reset with
            halfPeriod := c.half, settle := c.settle.getD 0, retryMax := c.retry.getD 0, dzRadius := r
            rdata := t.rdata, dsync := t.dsync, inputs := t.inputs, cycle := t.cycle })

/-! ### The event-level form (42_handshake.md R165) -/

/-- R165: the cycle-exact poll and the event-level `poll_events` agree in what they produce. For a poll
accepted at edge 0, under any host traffic, with the environment's bits the levels that `LineGet` gives
at the sampling edges: the poll completes at the edge that the events' cycles add up to, and not before,
with the same result, attempt count, controller-type byte and snapshot. -/
def Obligations.CycleExactPollAgreesWithTheEventLevelPoll : Prop :=
  ∀ (al : BitVec 2) (hi : BitVec 24) (s : State), Inv s → s.st = .idle → s.halfPeriod ≠ 0 →
    fetch s = some (.poll al hi) →
    let env := fun a k i => lineGet (runN (sampleEdge (hTicks s) (sTicks s) a k i) s)
    let o := pollEvents (hTicks s) (sTicks s) s.dzRadius env s.retryMax.toNat 1
    let n := duration o.events
    noReset (n + 1) s →
    let t := runN (n + 1) s
    (∀ e, 1 ≤ e → e ≤ n → (runN e s).st ≠ .idle) ∧
    t.st = .idle ∧ t.result = o.result ∧ t.attempts.toNat = o.attempts ∧ t.ctype = o.ctype ∧
    (∀ b a, o.snapshot = some (b, a) → t.buttons = b ∧ t.axes = a ∧ t.valid = true) ∧
    (o.snapshot = none → t.buttons = s.buttons ∧ t.axes = s.axes ∧ t.valid = s.valid)

/-- R165, R128: over the same poll the three output lines carry, cycle by cycle, the waveform of the
event-level poll's line events, and return to the idle levels at its completion edge. -/
def Obligations.LinesCarryTheEventLevelWaveform : Prop :=
  ∀ (al : BitVec 2) (hi : BitVec 24) (s : State), Inv s → s.st = .idle → s.halfPeriod ≠ 0 →
    fetch s = some (.poll al hi) →
    let env := fun a k i => lineGet (runN (sampleEdge (hTicks s) (sTicks s) a k i) s)
    let o := pollEvents (hTicks s) (sTicks s) s.dzRadius env s.retryMax.toNat 1
    let n := duration o.events
    noReset (n + 1) s →
    (List.range n).map (fun e => levelsOf (runN (e + 1) s)) = waveform idleLevels o.events ∧
    levelsOf (runN (n + 1) s) = idleLevels
end

