-- ==== Sys2Proof/Laws/State.lean ====
section
/-! SUPPORT. One lemma for each field of State under each primitive update, true by rfl, so that no
later proof unfolds a record update. -/

namespace Sys2Proof.Laws

open Sys2Proof Sys2Proof.Machine

/-! ### lineSet_cmd -/

@[simp] theorem lineSet_cmd_done (v : Bool) (s : State) : (lineSet .cmd v s).done = s.done := rfl
@[simp] theorem lineSet_cmd_valid (v : Bool) (s : State) : (lineSet .cmd v s).valid = s.valid := rfl
@[simp] theorem lineSet_cmd_ign (v : Bool) (s : State) : (lineSet .cmd v s).ign = s.ign := rfl
@[simp] theorem lineSet_cmd_result (v : Bool) (s : State) : (lineSet .cmd v s).result = s.result := rfl
@[simp] theorem lineSet_cmd_attempts (v : Bool) (s : State) : (lineSet .cmd v s).attempts = s.attempts := rfl
@[simp] theorem lineSet_cmd_buttons (v : Bool) (s : State) : (lineSet .cmd v s).buttons = s.buttons := rfl
@[simp] theorem lineSet_cmd_axes (v : Bool) (s : State) : (lineSet .cmd v s).axes = s.axes := rfl
@[simp] theorem lineSet_cmd_ctype (v : Bool) (s : State) : (lineSet .cmd v s).ctype = s.ctype := rfl
@[simp] theorem lineSet_cmd_halfPeriod (v : Bool) (s : State) : (lineSet .cmd v s).halfPeriod = s.halfPeriod := rfl
@[simp] theorem lineSet_cmd_settle (v : Bool) (s : State) : (lineSet .cmd v s).settle = s.settle := rfl
@[simp] theorem lineSet_cmd_retryMax (v : Bool) (s : State) : (lineSet .cmd v s).retryMax = s.retryMax := rfl
@[simp] theorem lineSet_cmd_dzRadius (v : Bool) (s : State) : (lineSet .cmd v s).dzRadius = s.dzRadius := rfl
@[simp] theorem lineSet_cmd_st (v : Bool) (s : State) : (lineSet .cmd v s).st = s.st := rfl
@[simp] theorem lineSet_cmd_tmr (v : Bool) (s : State) : (lineSet .cmd v s).tmr = s.tmr := rfl
@[simp] theorem lineSet_cmd_ph (v : Bool) (s : State) : (lineSet .cmd v s).ph = s.ph := rfl
@[simp] theorem lineSet_cmd_bidx (v : Bool) (s : State) : (lineSet .cmd v s).bidx = s.bidx := rfl
@[simp] theorem lineSet_cmd_fidx (v : Bool) (s : State) : (lineSet .cmd v s).fidx = s.fidx := rfl
@[simp] theorem lineSet_cmd_tx (v : Bool) (s : State) : (lineSet .cmd v s).tx = s.tx := rfl
@[simp] theorem lineSet_cmd_rx (v : Bool) (s : State) : (lineSet .cmd v s).rx = s.rx := rfl
@[simp] theorem lineSet_cmd_raw (v : Bool) (s : State) : (lineSet .cmd v s).raw = s.raw := rfl
@[simp] theorem lineSet_cmd_cmdQ (v : Bool) (s : State) : (lineSet .cmd v s).cmdQ = v := rfl
@[simp] theorem lineSet_cmd_clkQ (v : Bool) (s : State) : (lineSet .cmd v s).clkQ = s.clkQ := rfl
@[simp] theorem lineSet_cmd_attQ (v : Bool) (s : State) : (lineSet .cmd v s).attQ = s.attQ := rfl
@[simp] theorem lineSet_cmd_dsync (v : Bool) (s : State) : (lineSet .cmd v s).dsync = s.dsync := rfl
@[simp] theorem lineSet_cmd_rdata (v : Bool) (s : State) : (lineSet .cmd v s).rdata = s.rdata := rfl
@[simp] theorem lineSet_cmd_inputs (v : Bool) (s : State) : (lineSet .cmd v s).inputs = s.inputs := rfl
@[simp] theorem lineSet_cmd_cycle (v : Bool) (s : State) : (lineSet .cmd v s).cycle = s.cycle := rfl

/-! ### lineSet_clk -/

@[simp] theorem lineSet_clk_done (v : Bool) (s : State) : (lineSet .clk v s).done = s.done := rfl
@[simp] theorem lineSet_clk_valid (v : Bool) (s : State) : (lineSet .clk v s).valid = s.valid := rfl
@[simp] theorem lineSet_clk_ign (v : Bool) (s : State) : (lineSet .clk v s).ign = s.ign := rfl
@[simp] theorem lineSet_clk_result (v : Bool) (s : State) : (lineSet .clk v s).result = s.result := rfl
@[simp] theorem lineSet_clk_attempts (v : Bool) (s : State) : (lineSet .clk v s).attempts = s.attempts := rfl
@[simp] theorem lineSet_clk_buttons (v : Bool) (s : State) : (lineSet .clk v s).buttons = s.buttons := rfl
@[simp] theorem lineSet_clk_axes (v : Bool) (s : State) : (lineSet .clk v s).axes = s.axes := rfl
@[simp] theorem lineSet_clk_ctype (v : Bool) (s : State) : (lineSet .clk v s).ctype = s.ctype := rfl
@[simp] theorem lineSet_clk_halfPeriod (v : Bool) (s : State) : (lineSet .clk v s).halfPeriod = s.halfPeriod := rfl
@[simp] theorem lineSet_clk_settle (v : Bool) (s : State) : (lineSet .clk v s).settle = s.settle := rfl
@[simp] theorem lineSet_clk_retryMax (v : Bool) (s : State) : (lineSet .clk v s).retryMax = s.retryMax := rfl
@[simp] theorem lineSet_clk_dzRadius (v : Bool) (s : State) : (lineSet .clk v s).dzRadius = s.dzRadius := rfl
@[simp] theorem lineSet_clk_st (v : Bool) (s : State) : (lineSet .clk v s).st = s.st := rfl
@[simp] theorem lineSet_clk_tmr (v : Bool) (s : State) : (lineSet .clk v s).tmr = s.tmr := rfl
@[simp] theorem lineSet_clk_ph (v : Bool) (s : State) : (lineSet .clk v s).ph = s.ph := rfl
@[simp] theorem lineSet_clk_bidx (v : Bool) (s : State) : (lineSet .clk v s).bidx = s.bidx := rfl
@[simp] theorem lineSet_clk_fidx (v : Bool) (s : State) : (lineSet .clk v s).fidx = s.fidx := rfl
@[simp] theorem lineSet_clk_tx (v : Bool) (s : State) : (lineSet .clk v s).tx = s.tx := rfl
@[simp] theorem lineSet_clk_rx (v : Bool) (s : State) : (lineSet .clk v s).rx = s.rx := rfl
@[simp] theorem lineSet_clk_raw (v : Bool) (s : State) : (lineSet .clk v s).raw = s.raw := rfl
@[simp] theorem lineSet_clk_cmdQ (v : Bool) (s : State) : (lineSet .clk v s).cmdQ = s.cmdQ := rfl
@[simp] theorem lineSet_clk_clkQ (v : Bool) (s : State) : (lineSet .clk v s).clkQ = v := rfl
@[simp] theorem lineSet_clk_attQ (v : Bool) (s : State) : (lineSet .clk v s).attQ = s.attQ := rfl
@[simp] theorem lineSet_clk_dsync (v : Bool) (s : State) : (lineSet .clk v s).dsync = s.dsync := rfl
@[simp] theorem lineSet_clk_rdata (v : Bool) (s : State) : (lineSet .clk v s).rdata = s.rdata := rfl
@[simp] theorem lineSet_clk_inputs (v : Bool) (s : State) : (lineSet .clk v s).inputs = s.inputs := rfl
@[simp] theorem lineSet_clk_cycle (v : Bool) (s : State) : (lineSet .clk v s).cycle = s.cycle := rfl

/-! ### lineSet_att -/

@[simp] theorem lineSet_att_done (v : Bool) (s : State) : (lineSet .att v s).done = s.done := rfl
@[simp] theorem lineSet_att_valid (v : Bool) (s : State) : (lineSet .att v s).valid = s.valid := rfl
@[simp] theorem lineSet_att_ign (v : Bool) (s : State) : (lineSet .att v s).ign = s.ign := rfl
@[simp] theorem lineSet_att_result (v : Bool) (s : State) : (lineSet .att v s).result = s.result := rfl
@[simp] theorem lineSet_att_attempts (v : Bool) (s : State) : (lineSet .att v s).attempts = s.attempts := rfl
@[simp] theorem lineSet_att_buttons (v : Bool) (s : State) : (lineSet .att v s).buttons = s.buttons := rfl
@[simp] theorem lineSet_att_axes (v : Bool) (s : State) : (lineSet .att v s).axes = s.axes := rfl
@[simp] theorem lineSet_att_ctype (v : Bool) (s : State) : (lineSet .att v s).ctype = s.ctype := rfl
@[simp] theorem lineSet_att_halfPeriod (v : Bool) (s : State) : (lineSet .att v s).halfPeriod = s.halfPeriod := rfl
@[simp] theorem lineSet_att_settle (v : Bool) (s : State) : (lineSet .att v s).settle = s.settle := rfl
@[simp] theorem lineSet_att_retryMax (v : Bool) (s : State) : (lineSet .att v s).retryMax = s.retryMax := rfl
@[simp] theorem lineSet_att_dzRadius (v : Bool) (s : State) : (lineSet .att v s).dzRadius = s.dzRadius := rfl
@[simp] theorem lineSet_att_st (v : Bool) (s : State) : (lineSet .att v s).st = s.st := rfl
@[simp] theorem lineSet_att_tmr (v : Bool) (s : State) : (lineSet .att v s).tmr = s.tmr := rfl
@[simp] theorem lineSet_att_ph (v : Bool) (s : State) : (lineSet .att v s).ph = s.ph := rfl
@[simp] theorem lineSet_att_bidx (v : Bool) (s : State) : (lineSet .att v s).bidx = s.bidx := rfl
@[simp] theorem lineSet_att_fidx (v : Bool) (s : State) : (lineSet .att v s).fidx = s.fidx := rfl
@[simp] theorem lineSet_att_tx (v : Bool) (s : State) : (lineSet .att v s).tx = s.tx := rfl
@[simp] theorem lineSet_att_rx (v : Bool) (s : State) : (lineSet .att v s).rx = s.rx := rfl
@[simp] theorem lineSet_att_raw (v : Bool) (s : State) : (lineSet .att v s).raw = s.raw := rfl
@[simp] theorem lineSet_att_cmdQ (v : Bool) (s : State) : (lineSet .att v s).cmdQ = s.cmdQ := rfl
@[simp] theorem lineSet_att_clkQ (v : Bool) (s : State) : (lineSet .att v s).clkQ = s.clkQ := rfl
@[simp] theorem lineSet_att_attQ (v : Bool) (s : State) : (lineSet .att v s).attQ = v := rfl
@[simp] theorem lineSet_att_dsync (v : Bool) (s : State) : (lineSet .att v s).dsync = s.dsync := rfl
@[simp] theorem lineSet_att_rdata (v : Bool) (s : State) : (lineSet .att v s).rdata = s.rdata := rfl
@[simp] theorem lineSet_att_inputs (v : Bool) (s : State) : (lineSet .att v s).inputs = s.inputs := rfl
@[simp] theorem lineSet_att_cycle (v : Bool) (s : State) : (lineSet .att v s).cycle = s.cycle := rfl

/-! ### dsyncShift -/

@[simp] theorem dsyncShift_done (v : Bool) (p s : State) : (dsyncShift v p s).done = s.done := rfl
@[simp] theorem dsyncShift_valid (v : Bool) (p s : State) : (dsyncShift v p s).valid = s.valid := rfl
@[simp] theorem dsyncShift_ign (v : Bool) (p s : State) : (dsyncShift v p s).ign = s.ign := rfl
@[simp] theorem dsyncShift_result (v : Bool) (p s : State) : (dsyncShift v p s).result = s.result := rfl
@[simp] theorem dsyncShift_attempts (v : Bool) (p s : State) : (dsyncShift v p s).attempts = s.attempts := rfl
@[simp] theorem dsyncShift_buttons (v : Bool) (p s : State) : (dsyncShift v p s).buttons = s.buttons := rfl
@[simp] theorem dsyncShift_axes (v : Bool) (p s : State) : (dsyncShift v p s).axes = s.axes := rfl
@[simp] theorem dsyncShift_ctype (v : Bool) (p s : State) : (dsyncShift v p s).ctype = s.ctype := rfl
@[simp] theorem dsyncShift_halfPeriod (v : Bool) (p s : State) : (dsyncShift v p s).halfPeriod = s.halfPeriod := rfl
@[simp] theorem dsyncShift_settle (v : Bool) (p s : State) : (dsyncShift v p s).settle = s.settle := rfl
@[simp] theorem dsyncShift_retryMax (v : Bool) (p s : State) : (dsyncShift v p s).retryMax = s.retryMax := rfl
@[simp] theorem dsyncShift_dzRadius (v : Bool) (p s : State) : (dsyncShift v p s).dzRadius = s.dzRadius := rfl
@[simp] theorem dsyncShift_st (v : Bool) (p s : State) : (dsyncShift v p s).st = s.st := rfl
@[simp] theorem dsyncShift_tmr (v : Bool) (p s : State) : (dsyncShift v p s).tmr = s.tmr := rfl
@[simp] theorem dsyncShift_ph (v : Bool) (p s : State) : (dsyncShift v p s).ph = s.ph := rfl
@[simp] theorem dsyncShift_bidx (v : Bool) (p s : State) : (dsyncShift v p s).bidx = s.bidx := rfl
@[simp] theorem dsyncShift_fidx (v : Bool) (p s : State) : (dsyncShift v p s).fidx = s.fidx := rfl
@[simp] theorem dsyncShift_tx (v : Bool) (p s : State) : (dsyncShift v p s).tx = s.tx := rfl
@[simp] theorem dsyncShift_rx (v : Bool) (p s : State) : (dsyncShift v p s).rx = s.rx := rfl
@[simp] theorem dsyncShift_raw (v : Bool) (p s : State) : (dsyncShift v p s).raw = s.raw := rfl
@[simp] theorem dsyncShift_cmdQ (v : Bool) (p s : State) : (dsyncShift v p s).cmdQ = s.cmdQ := rfl
@[simp] theorem dsyncShift_clkQ (v : Bool) (p s : State) : (dsyncShift v p s).clkQ = s.clkQ := rfl
@[simp] theorem dsyncShift_attQ (v : Bool) (p s : State) : (dsyncShift v p s).attQ = s.attQ := rfl
@[simp] theorem dsyncShift_dsync (v : Bool) (p s : State) : (dsyncShift v p s).dsync = p.dsync.shift v := rfl
@[simp] theorem dsyncShift_rdata (v : Bool) (p s : State) : (dsyncShift v p s).rdata = s.rdata := rfl
@[simp] theorem dsyncShift_inputs (v : Bool) (p s : State) : (dsyncShift v p s).inputs = s.inputs := rfl
@[simp] theorem dsyncShift_cycle (v : Bool) (p s : State) : (dsyncShift v p s).cycle = s.cycle := rfl

/-! ### wait -/

@[simp] theorem wait_done (n : BitVec 24) (s : State) : (wait n s).done = s.done := rfl
@[simp] theorem wait_valid (n : BitVec 24) (s : State) : (wait n s).valid = s.valid := rfl
@[simp] theorem wait_ign (n : BitVec 24) (s : State) : (wait n s).ign = s.ign := rfl
@[simp] theorem wait_result (n : BitVec 24) (s : State) : (wait n s).result = s.result := rfl
@[simp] theorem wait_attempts (n : BitVec 24) (s : State) : (wait n s).attempts = s.attempts := rfl
@[simp] theorem wait_buttons (n : BitVec 24) (s : State) : (wait n s).buttons = s.buttons := rfl
@[simp] theorem wait_axes (n : BitVec 24) (s : State) : (wait n s).axes = s.axes := rfl
@[simp] theorem wait_ctype (n : BitVec 24) (s : State) : (wait n s).ctype = s.ctype := rfl
@[simp] theorem wait_halfPeriod (n : BitVec 24) (s : State) : (wait n s).halfPeriod = s.halfPeriod := rfl
@[simp] theorem wait_settle (n : BitVec 24) (s : State) : (wait n s).settle = s.settle := rfl
@[simp] theorem wait_retryMax (n : BitVec 24) (s : State) : (wait n s).retryMax = s.retryMax := rfl
@[simp] theorem wait_dzRadius (n : BitVec 24) (s : State) : (wait n s).dzRadius = s.dzRadius := rfl
@[simp] theorem wait_st (n : BitVec 24) (s : State) : (wait n s).st = s.st := rfl
@[simp] theorem wait_tmr (n : BitVec 24) (s : State) : (wait n s).tmr = n := rfl
@[simp] theorem wait_ph (n : BitVec 24) (s : State) : (wait n s).ph = s.ph := rfl
@[simp] theorem wait_bidx (n : BitVec 24) (s : State) : (wait n s).bidx = s.bidx := rfl
@[simp] theorem wait_fidx (n : BitVec 24) (s : State) : (wait n s).fidx = s.fidx := rfl
@[simp] theorem wait_tx (n : BitVec 24) (s : State) : (wait n s).tx = s.tx := rfl
@[simp] theorem wait_rx (n : BitVec 24) (s : State) : (wait n s).rx = s.rx := rfl
@[simp] theorem wait_raw (n : BitVec 24) (s : State) : (wait n s).raw = s.raw := rfl
@[simp] theorem wait_cmdQ (n : BitVec 24) (s : State) : (wait n s).cmdQ = s.cmdQ := rfl
@[simp] theorem wait_clkQ (n : BitVec 24) (s : State) : (wait n s).clkQ = s.clkQ := rfl
@[simp] theorem wait_attQ (n : BitVec 24) (s : State) : (wait n s).attQ = s.attQ := rfl
@[simp] theorem wait_dsync (n : BitVec 24) (s : State) : (wait n s).dsync = s.dsync := rfl
@[simp] theorem wait_rdata (n : BitVec 24) (s : State) : (wait n s).rdata = s.rdata := rfl
@[simp] theorem wait_inputs (n : BitVec 24) (s : State) : (wait n s).inputs = s.inputs := rfl
@[simp] theorem wait_cycle (n : BitVec 24) (s : State) : (wait n s).cycle = s.cycle := rfl

/-! ### setIgn -/

@[simp] theorem setIgn_done (s : State) : (setIgn s).done = s.done := rfl
@[simp] theorem setIgn_valid (s : State) : (setIgn s).valid = s.valid := rfl
@[simp] theorem setIgn_ign (s : State) : (setIgn s).ign = true := rfl
@[simp] theorem setIgn_result (s : State) : (setIgn s).result = s.result := rfl
@[simp] theorem setIgn_attempts (s : State) : (setIgn s).attempts = s.attempts := rfl
@[simp] theorem setIgn_buttons (s : State) : (setIgn s).buttons = s.buttons := rfl
@[simp] theorem setIgn_axes (s : State) : (setIgn s).axes = s.axes := rfl
@[simp] theorem setIgn_ctype (s : State) : (setIgn s).ctype = s.ctype := rfl
@[simp] theorem setIgn_halfPeriod (s : State) : (setIgn s).halfPeriod = s.halfPeriod := rfl
@[simp] theorem setIgn_settle (s : State) : (setIgn s).settle = s.settle := rfl
@[simp] theorem setIgn_retryMax (s : State) : (setIgn s).retryMax = s.retryMax := rfl
@[simp] theorem setIgn_dzRadius (s : State) : (setIgn s).dzRadius = s.dzRadius := rfl
@[simp] theorem setIgn_st (s : State) : (setIgn s).st = s.st := rfl
@[simp] theorem setIgn_tmr (s : State) : (setIgn s).tmr = s.tmr := rfl
@[simp] theorem setIgn_ph (s : State) : (setIgn s).ph = s.ph := rfl
@[simp] theorem setIgn_bidx (s : State) : (setIgn s).bidx = s.bidx := rfl
@[simp] theorem setIgn_fidx (s : State) : (setIgn s).fidx = s.fidx := rfl
@[simp] theorem setIgn_tx (s : State) : (setIgn s).tx = s.tx := rfl
@[simp] theorem setIgn_rx (s : State) : (setIgn s).rx = s.rx := rfl
@[simp] theorem setIgn_raw (s : State) : (setIgn s).raw = s.raw := rfl
@[simp] theorem setIgn_cmdQ (s : State) : (setIgn s).cmdQ = s.cmdQ := rfl
@[simp] theorem setIgn_clkQ (s : State) : (setIgn s).clkQ = s.clkQ := rfl
@[simp] theorem setIgn_attQ (s : State) : (setIgn s).attQ = s.attQ := rfl
@[simp] theorem setIgn_dsync (s : State) : (setIgn s).dsync = s.dsync := rfl
@[simp] theorem setIgn_rdata (s : State) : (setIgn s).rdata = s.rdata := rfl
@[simp] theorem setIgn_inputs (s : State) : (setIgn s).inputs = s.inputs := rfl
@[simp] theorem setIgn_cycle (s : State) : (setIgn s).cycle = s.cycle := rfl

/-! ### statusW1c -/

@[simp] theorem statusW1c_done (d : Word) (s : State) : (statusW1c d s).done = (s.done && !clearDoneReq d) := rfl
@[simp] theorem statusW1c_valid (d : Word) (s : State) : (statusW1c d s).valid = s.valid := rfl
@[simp] theorem statusW1c_ign (d : Word) (s : State) : (statusW1c d s).ign = (s.ign && !clearIgnReq d) := rfl
@[simp] theorem statusW1c_result (d : Word) (s : State) : (statusW1c d s).result = s.result := rfl
@[simp] theorem statusW1c_attempts (d : Word) (s : State) : (statusW1c d s).attempts = s.attempts := rfl
@[simp] theorem statusW1c_buttons (d : Word) (s : State) : (statusW1c d s).buttons = s.buttons := rfl
@[simp] theorem statusW1c_axes (d : Word) (s : State) : (statusW1c d s).axes = s.axes := rfl
@[simp] theorem statusW1c_ctype (d : Word) (s : State) : (statusW1c d s).ctype = s.ctype := rfl
@[simp] theorem statusW1c_halfPeriod (d : Word) (s : State) : (statusW1c d s).halfPeriod = s.halfPeriod := rfl
@[simp] theorem statusW1c_settle (d : Word) (s : State) : (statusW1c d s).settle = s.settle := rfl
@[simp] theorem statusW1c_retryMax (d : Word) (s : State) : (statusW1c d s).retryMax = s.retryMax := rfl
@[simp] theorem statusW1c_dzRadius (d : Word) (s : State) : (statusW1c d s).dzRadius = s.dzRadius := rfl
@[simp] theorem statusW1c_st (d : Word) (s : State) : (statusW1c d s).st = s.st := rfl
@[simp] theorem statusW1c_tmr (d : Word) (s : State) : (statusW1c d s).tmr = s.tmr := rfl
@[simp] theorem statusW1c_ph (d : Word) (s : State) : (statusW1c d s).ph = s.ph := rfl
@[simp] theorem statusW1c_bidx (d : Word) (s : State) : (statusW1c d s).bidx = s.bidx := rfl
@[simp] theorem statusW1c_fidx (d : Word) (s : State) : (statusW1c d s).fidx = s.fidx := rfl
@[simp] theorem statusW1c_tx (d : Word) (s : State) : (statusW1c d s).tx = s.tx := rfl
@[simp] theorem statusW1c_rx (d : Word) (s : State) : (statusW1c d s).rx = s.rx := rfl
@[simp] theorem statusW1c_raw (d : Word) (s : State) : (statusW1c d s).raw = s.raw := rfl
@[simp] theorem statusW1c_cmdQ (d : Word) (s : State) : (statusW1c d s).cmdQ = s.cmdQ := rfl
@[simp] theorem statusW1c_clkQ (d : Word) (s : State) : (statusW1c d s).clkQ = s.clkQ := rfl
@[simp] theorem statusW1c_attQ (d : Word) (s : State) : (statusW1c d s).attQ = s.attQ := rfl
@[simp] theorem statusW1c_dsync (d : Word) (s : State) : (statusW1c d s).dsync = s.dsync := rfl
@[simp] theorem statusW1c_rdata (d : Word) (s : State) : (statusW1c d s).rdata = s.rdata := rfl
@[simp] theorem statusW1c_inputs (d : Word) (s : State) : (statusW1c d s).inputs = s.inputs := rfl
@[simp] theorem statusW1c_cycle (d : Word) (s : State) : (statusW1c d s).cycle = s.cycle := rfl

/-! ### driveRead -/

@[simp] theorem driveRead_done (v : Word) (s : State) : (driveRead v s).done = s.done := rfl
@[simp] theorem driveRead_valid (v : Word) (s : State) : (driveRead v s).valid = s.valid := rfl
@[simp] theorem driveRead_ign (v : Word) (s : State) : (driveRead v s).ign = s.ign := rfl
@[simp] theorem driveRead_result (v : Word) (s : State) : (driveRead v s).result = s.result := rfl
@[simp] theorem driveRead_attempts (v : Word) (s : State) : (driveRead v s).attempts = s.attempts := rfl
@[simp] theorem driveRead_buttons (v : Word) (s : State) : (driveRead v s).buttons = s.buttons := rfl
@[simp] theorem driveRead_axes (v : Word) (s : State) : (driveRead v s).axes = s.axes := rfl
@[simp] theorem driveRead_ctype (v : Word) (s : State) : (driveRead v s).ctype = s.ctype := rfl
@[simp] theorem driveRead_halfPeriod (v : Word) (s : State) : (driveRead v s).halfPeriod = s.halfPeriod := rfl
@[simp] theorem driveRead_settle (v : Word) (s : State) : (driveRead v s).settle = s.settle := rfl
@[simp] theorem driveRead_retryMax (v : Word) (s : State) : (driveRead v s).retryMax = s.retryMax := rfl
@[simp] theorem driveRead_dzRadius (v : Word) (s : State) : (driveRead v s).dzRadius = s.dzRadius := rfl
@[simp] theorem driveRead_st (v : Word) (s : State) : (driveRead v s).st = s.st := rfl
@[simp] theorem driveRead_tmr (v : Word) (s : State) : (driveRead v s).tmr = s.tmr := rfl
@[simp] theorem driveRead_ph (v : Word) (s : State) : (driveRead v s).ph = s.ph := rfl
@[simp] theorem driveRead_bidx (v : Word) (s : State) : (driveRead v s).bidx = s.bidx := rfl
@[simp] theorem driveRead_fidx (v : Word) (s : State) : (driveRead v s).fidx = s.fidx := rfl
@[simp] theorem driveRead_tx (v : Word) (s : State) : (driveRead v s).tx = s.tx := rfl
@[simp] theorem driveRead_rx (v : Word) (s : State) : (driveRead v s).rx = s.rx := rfl
@[simp] theorem driveRead_raw (v : Word) (s : State) : (driveRead v s).raw = s.raw := rfl
@[simp] theorem driveRead_cmdQ (v : Word) (s : State) : (driveRead v s).cmdQ = s.cmdQ := rfl
@[simp] theorem driveRead_clkQ (v : Word) (s : State) : (driveRead v s).clkQ = s.clkQ := rfl
@[simp] theorem driveRead_attQ (v : Word) (s : State) : (driveRead v s).attQ = s.attQ := rfl
@[simp] theorem driveRead_dsync (v : Word) (s : State) : (driveRead v s).dsync = s.dsync := rfl
@[simp] theorem driveRead_rdata (v : Word) (s : State) : (driveRead v s).rdata = some v := rfl
@[simp] theorem driveRead_inputs (v : Word) (s : State) : (driveRead v s).inputs = s.inputs := rfl
@[simp] theorem driveRead_cycle (v : Word) (s : State) : (driveRead v s).cycle = s.cycle := rfl

/-! ### driveNone -/

@[simp] theorem driveNone_done (s : State) : (driveNone s).done = s.done := rfl
@[simp] theorem driveNone_valid (s : State) : (driveNone s).valid = s.valid := rfl
@[simp] theorem driveNone_ign (s : State) : (driveNone s).ign = s.ign := rfl
@[simp] theorem driveNone_result (s : State) : (driveNone s).result = s.result := rfl
@[simp] theorem driveNone_attempts (s : State) : (driveNone s).attempts = s.attempts := rfl
@[simp] theorem driveNone_buttons (s : State) : (driveNone s).buttons = s.buttons := rfl
@[simp] theorem driveNone_axes (s : State) : (driveNone s).axes = s.axes := rfl
@[simp] theorem driveNone_ctype (s : State) : (driveNone s).ctype = s.ctype := rfl
@[simp] theorem driveNone_halfPeriod (s : State) : (driveNone s).halfPeriod = s.halfPeriod := rfl
@[simp] theorem driveNone_settle (s : State) : (driveNone s).settle = s.settle := rfl
@[simp] theorem driveNone_retryMax (s : State) : (driveNone s).retryMax = s.retryMax := rfl
@[simp] theorem driveNone_dzRadius (s : State) : (driveNone s).dzRadius = s.dzRadius := rfl
@[simp] theorem driveNone_st (s : State) : (driveNone s).st = s.st := rfl
@[simp] theorem driveNone_tmr (s : State) : (driveNone s).tmr = s.tmr := rfl
@[simp] theorem driveNone_ph (s : State) : (driveNone s).ph = s.ph := rfl
@[simp] theorem driveNone_bidx (s : State) : (driveNone s).bidx = s.bidx := rfl
@[simp] theorem driveNone_fidx (s : State) : (driveNone s).fidx = s.fidx := rfl
@[simp] theorem driveNone_tx (s : State) : (driveNone s).tx = s.tx := rfl
@[simp] theorem driveNone_rx (s : State) : (driveNone s).rx = s.rx := rfl
@[simp] theorem driveNone_raw (s : State) : (driveNone s).raw = s.raw := rfl
@[simp] theorem driveNone_cmdQ (s : State) : (driveNone s).cmdQ = s.cmdQ := rfl
@[simp] theorem driveNone_clkQ (s : State) : (driveNone s).clkQ = s.clkQ := rfl
@[simp] theorem driveNone_attQ (s : State) : (driveNone s).attQ = s.attQ := rfl
@[simp] theorem driveNone_dsync (s : State) : (driveNone s).dsync = s.dsync := rfl
@[simp] theorem driveNone_rdata (s : State) : (driveNone s).rdata = none := rfl
@[simp] theorem driveNone_inputs (s : State) : (driveNone s).inputs = s.inputs := rfl
@[simp] theorem driveNone_cycle (s : State) : (driveNone s).cycle = s.cycle := rfl

/-! ### startAttempt -/

@[simp] theorem startAttempt_done (p s : State) : (startAttempt p s).done = s.done := rfl
@[simp] theorem startAttempt_valid (p s : State) : (startAttempt p s).valid = s.valid := rfl
@[simp] theorem startAttempt_ign (p s : State) : (startAttempt p s).ign = s.ign := rfl
@[simp] theorem startAttempt_result (p s : State) : (startAttempt p s).result = s.result := rfl
@[simp] theorem startAttempt_attempts (p s : State) : (startAttempt p s).attempts = s.attempts := rfl
@[simp] theorem startAttempt_buttons (p s : State) : (startAttempt p s).buttons = s.buttons := rfl
@[simp] theorem startAttempt_axes (p s : State) : (startAttempt p s).axes = s.axes := rfl
@[simp] theorem startAttempt_ctype (p s : State) : (startAttempt p s).ctype = s.ctype := rfl
@[simp] theorem startAttempt_halfPeriod (p s : State) : (startAttempt p s).halfPeriod = s.halfPeriod := rfl
@[simp] theorem startAttempt_settle (p s : State) : (startAttempt p s).settle = s.settle := rfl
@[simp] theorem startAttempt_retryMax (p s : State) : (startAttempt p s).retryMax = s.retryMax := rfl
@[simp] theorem startAttempt_dzRadius (p s : State) : (startAttempt p s).dzRadius = s.dzRadius := rfl
@[simp] theorem startAttempt_st (p s : State) : (startAttempt p s).st = .attn := rfl
@[simp] theorem startAttempt_tmr (p s : State) : (startAttempt p s).tmr = halfTicks p := rfl
@[simp] theorem startAttempt_ph (p s : State) : (startAttempt p s).ph = s.ph := rfl
@[simp] theorem startAttempt_bidx (p s : State) : (startAttempt p s).bidx = s.bidx := rfl
@[simp] theorem startAttempt_fidx (p s : State) : (startAttempt p s).fidx = s.fidx := rfl
@[simp] theorem startAttempt_tx (p s : State) : (startAttempt p s).tx = s.tx := rfl
@[simp] theorem startAttempt_rx (p s : State) : (startAttempt p s).rx = s.rx := rfl
@[simp] theorem startAttempt_raw (p s : State) : (startAttempt p s).raw = s.raw := rfl
@[simp] theorem startAttempt_cmdQ (p s : State) : (startAttempt p s).cmdQ = s.cmdQ := rfl
@[simp] theorem startAttempt_clkQ (p s : State) : (startAttempt p s).clkQ = s.clkQ := rfl
@[simp] theorem startAttempt_attQ (p s : State) : (startAttempt p s).attQ = false := rfl
@[simp] theorem startAttempt_dsync (p s : State) : (startAttempt p s).dsync = s.dsync := rfl
@[simp] theorem startAttempt_rdata (p s : State) : (startAttempt p s).rdata = s.rdata := rfl
@[simp] theorem startAttempt_inputs (p s : State) : (startAttempt p s).inputs = s.inputs := rfl
@[simp] theorem startAttempt_cycle (p s : State) : (startAttempt p s).cycle = s.cycle := rfl

/-! ### completeIdle -/

@[simp] theorem completeIdle_done (c : PollResult) (s : State) : (completeIdle c s).done = true := rfl
@[simp] theorem completeIdle_valid (c : PollResult) (s : State) : (completeIdle c s).valid = s.valid := rfl
@[simp] theorem completeIdle_ign (c : PollResult) (s : State) : (completeIdle c s).ign = s.ign := rfl
@[simp] theorem completeIdle_result (c : PollResult) (s : State) : (completeIdle c s).result = c := rfl
@[simp] theorem completeIdle_attempts (c : PollResult) (s : State) : (completeIdle c s).attempts = s.attempts := rfl
@[simp] theorem completeIdle_buttons (c : PollResult) (s : State) : (completeIdle c s).buttons = s.buttons := rfl
@[simp] theorem completeIdle_axes (c : PollResult) (s : State) : (completeIdle c s).axes = s.axes := rfl
@[simp] theorem completeIdle_ctype (c : PollResult) (s : State) : (completeIdle c s).ctype = s.ctype := rfl
@[simp] theorem completeIdle_halfPeriod (c : PollResult) (s : State) : (completeIdle c s).halfPeriod = s.halfPeriod := rfl
@[simp] theorem completeIdle_settle (c : PollResult) (s : State) : (completeIdle c s).settle = s.settle := rfl
@[simp] theorem completeIdle_retryMax (c : PollResult) (s : State) : (completeIdle c s).retryMax = s.retryMax := rfl
@[simp] theorem completeIdle_dzRadius (c : PollResult) (s : State) : (completeIdle c s).dzRadius = s.dzRadius := rfl
@[simp] theorem completeIdle_st (c : PollResult) (s : State) : (completeIdle c s).st = s.st := rfl
@[simp] theorem completeIdle_tmr (c : PollResult) (s : State) : (completeIdle c s).tmr = s.tmr := rfl
@[simp] theorem completeIdle_ph (c : PollResult) (s : State) : (completeIdle c s).ph = s.ph := rfl
@[simp] theorem completeIdle_bidx (c : PollResult) (s : State) : (completeIdle c s).bidx = s.bidx := rfl
@[simp] theorem completeIdle_fidx (c : PollResult) (s : State) : (completeIdle c s).fidx = s.fidx := rfl
@[simp] theorem completeIdle_tx (c : PollResult) (s : State) : (completeIdle c s).tx = s.tx := rfl
@[simp] theorem completeIdle_rx (c : PollResult) (s : State) : (completeIdle c s).rx = s.rx := rfl
@[simp] theorem completeIdle_raw (c : PollResult) (s : State) : (completeIdle c s).raw = s.raw := rfl
@[simp] theorem completeIdle_cmdQ (c : PollResult) (s : State) : (completeIdle c s).cmdQ = s.cmdQ := rfl
@[simp] theorem completeIdle_clkQ (c : PollResult) (s : State) : (completeIdle c s).clkQ = s.clkQ := rfl
@[simp] theorem completeIdle_attQ (c : PollResult) (s : State) : (completeIdle c s).attQ = s.attQ := rfl
@[simp] theorem completeIdle_dsync (c : PollResult) (s : State) : (completeIdle c s).dsync = s.dsync := rfl
@[simp] theorem completeIdle_rdata (c : PollResult) (s : State) : (completeIdle c s).rdata = s.rdata := rfl
@[simp] theorem completeIdle_inputs (c : PollResult) (s : State) : (completeIdle c s).inputs = s.inputs := rfl
@[simp] theorem completeIdle_cycle (c : PollResult) (s : State) : (completeIdle c s).cycle = s.cycle := rfl

/-! ### complete -/

@[simp] theorem complete_done (c : PollResult) (s : State) : (complete c s).done = true := rfl
@[simp] theorem complete_valid (c : PollResult) (s : State) : (complete c s).valid = s.valid := rfl
@[simp] theorem complete_ign (c : PollResult) (s : State) : (complete c s).ign = s.ign := rfl
@[simp] theorem complete_result (c : PollResult) (s : State) : (complete c s).result = c := rfl
@[simp] theorem complete_attempts (c : PollResult) (s : State) : (complete c s).attempts = s.attempts := rfl
@[simp] theorem complete_buttons (c : PollResult) (s : State) : (complete c s).buttons = s.buttons := rfl
@[simp] theorem complete_axes (c : PollResult) (s : State) : (complete c s).axes = s.axes := rfl
@[simp] theorem complete_ctype (c : PollResult) (s : State) : (complete c s).ctype = s.ctype := rfl
@[simp] theorem complete_halfPeriod (c : PollResult) (s : State) : (complete c s).halfPeriod = s.halfPeriod := rfl
@[simp] theorem complete_settle (c : PollResult) (s : State) : (complete c s).settle = s.settle := rfl
@[simp] theorem complete_retryMax (c : PollResult) (s : State) : (complete c s).retryMax = s.retryMax := rfl
@[simp] theorem complete_dzRadius (c : PollResult) (s : State) : (complete c s).dzRadius = s.dzRadius := rfl
@[simp] theorem complete_st (c : PollResult) (s : State) : (complete c s).st = .idle := rfl
@[simp] theorem complete_tmr (c : PollResult) (s : State) : (complete c s).tmr = s.tmr := rfl
@[simp] theorem complete_ph (c : PollResult) (s : State) : (complete c s).ph = s.ph := rfl
@[simp] theorem complete_bidx (c : PollResult) (s : State) : (complete c s).bidx = s.bidx := rfl
@[simp] theorem complete_fidx (c : PollResult) (s : State) : (complete c s).fidx = s.fidx := rfl
@[simp] theorem complete_tx (c : PollResult) (s : State) : (complete c s).tx = s.tx := rfl
@[simp] theorem complete_rx (c : PollResult) (s : State) : (complete c s).rx = s.rx := rfl
@[simp] theorem complete_raw (c : PollResult) (s : State) : (complete c s).raw = s.raw := rfl
@[simp] theorem complete_cmdQ (c : PollResult) (s : State) : (complete c s).cmdQ = s.cmdQ := rfl
@[simp] theorem complete_clkQ (c : PollResult) (s : State) : (complete c s).clkQ = s.clkQ := rfl
@[simp] theorem complete_attQ (c : PollResult) (s : State) : (complete c s).attQ = s.attQ := rfl
@[simp] theorem complete_dsync (c : PollResult) (s : State) : (complete c s).dsync = s.dsync := rfl
@[simp] theorem complete_rdata (c : PollResult) (s : State) : (complete c s).rdata = s.rdata := rfl
@[simp] theorem complete_inputs (c : PollResult) (s : State) : (complete c s).inputs = s.inputs := rfl
@[simp] theorem complete_cycle (c : PollResult) (s : State) : (complete c s).cycle = s.cycle := rfl

/-! ### beginByte -/

@[simp] theorem beginByte_done (b : Byte) (p s : State) : (beginByte b p s).done = s.done := rfl
@[simp] theorem beginByte_valid (b : Byte) (p s : State) : (beginByte b p s).valid = s.valid := rfl
@[simp] theorem beginByte_ign (b : Byte) (p s : State) : (beginByte b p s).ign = s.ign := rfl
@[simp] theorem beginByte_result (b : Byte) (p s : State) : (beginByte b p s).result = s.result := rfl
@[simp] theorem beginByte_attempts (b : Byte) (p s : State) : (beginByte b p s).attempts = s.attempts := rfl
@[simp] theorem beginByte_buttons (b : Byte) (p s : State) : (beginByte b p s).buttons = s.buttons := rfl
@[simp] theorem beginByte_axes (b : Byte) (p s : State) : (beginByte b p s).axes = s.axes := rfl
@[simp] theorem beginByte_ctype (b : Byte) (p s : State) : (beginByte b p s).ctype = s.ctype := rfl
@[simp] theorem beginByte_halfPeriod (b : Byte) (p s : State) : (beginByte b p s).halfPeriod = s.halfPeriod := rfl
@[simp] theorem beginByte_settle (b : Byte) (p s : State) : (beginByte b p s).settle = s.settle := rfl
@[simp] theorem beginByte_retryMax (b : Byte) (p s : State) : (beginByte b p s).retryMax = s.retryMax := rfl
@[simp] theorem beginByte_dzRadius (b : Byte) (p s : State) : (beginByte b p s).dzRadius = s.dzRadius := rfl
@[simp] theorem beginByte_st (b : Byte) (p s : State) : (beginByte b p s).st = s.st := rfl
@[simp] theorem beginByte_tmr (b : Byte) (p s : State) : (beginByte b p s).tmr = halfTicks p := rfl
@[simp] theorem beginByte_ph (b : Byte) (p s : State) : (beginByte b p s).ph = .lo := rfl
@[simp] theorem beginByte_bidx (b : Byte) (p s : State) : (beginByte b p s).bidx = 0 := rfl
@[simp] theorem beginByte_fidx (b : Byte) (p s : State) : (beginByte b p s).fidx = s.fidx := rfl
@[simp] theorem beginByte_tx (b : Byte) (p s : State) : (beginByte b p s).tx = b := rfl
@[simp] theorem beginByte_rx (b : Byte) (p s : State) : (beginByte b p s).rx = 0 := rfl
@[simp] theorem beginByte_raw (b : Byte) (p s : State) : (beginByte b p s).raw = s.raw := rfl
@[simp] theorem beginByte_cmdQ (b : Byte) (p s : State) : (beginByte b p s).cmdQ = b.getLsbD 0 := rfl
@[simp] theorem beginByte_clkQ (b : Byte) (p s : State) : (beginByte b p s).clkQ = false := rfl
@[simp] theorem beginByte_attQ (b : Byte) (p s : State) : (beginByte b p s).attQ = s.attQ := rfl
@[simp] theorem beginByte_dsync (b : Byte) (p s : State) : (beginByte b p s).dsync = s.dsync := rfl
@[simp] theorem beginByte_rdata (b : Byte) (p s : State) : (beginByte b p s).rdata = s.rdata := rfl
@[simp] theorem beginByte_inputs (b : Byte) (p s : State) : (beginByte b p s).inputs = s.inputs := rfl
@[simp] theorem beginByte_cycle (b : Byte) (p s : State) : (beginByte b p s).cycle = s.cycle := rfl

/-! ### nextCycle -/

@[simp] theorem nextCycle_done (s : State) : (nextCycle s).done = s.done := rfl
@[simp] theorem nextCycle_valid (s : State) : (nextCycle s).valid = s.valid := rfl
@[simp] theorem nextCycle_ign (s : State) : (nextCycle s).ign = s.ign := rfl
@[simp] theorem nextCycle_result (s : State) : (nextCycle s).result = s.result := rfl
@[simp] theorem nextCycle_attempts (s : State) : (nextCycle s).attempts = s.attempts := rfl
@[simp] theorem nextCycle_buttons (s : State) : (nextCycle s).buttons = s.buttons := rfl
@[simp] theorem nextCycle_axes (s : State) : (nextCycle s).axes = s.axes := rfl
@[simp] theorem nextCycle_ctype (s : State) : (nextCycle s).ctype = s.ctype := rfl
@[simp] theorem nextCycle_halfPeriod (s : State) : (nextCycle s).halfPeriod = s.halfPeriod := rfl
@[simp] theorem nextCycle_settle (s : State) : (nextCycle s).settle = s.settle := rfl
@[simp] theorem nextCycle_retryMax (s : State) : (nextCycle s).retryMax = s.retryMax := rfl
@[simp] theorem nextCycle_dzRadius (s : State) : (nextCycle s).dzRadius = s.dzRadius := rfl
@[simp] theorem nextCycle_st (s : State) : (nextCycle s).st = s.st := rfl
@[simp] theorem nextCycle_tmr (s : State) : (nextCycle s).tmr = s.tmr := rfl
@[simp] theorem nextCycle_ph (s : State) : (nextCycle s).ph = s.ph := rfl
@[simp] theorem nextCycle_bidx (s : State) : (nextCycle s).bidx = s.bidx := rfl
@[simp] theorem nextCycle_fidx (s : State) : (nextCycle s).fidx = s.fidx := rfl
@[simp] theorem nextCycle_tx (s : State) : (nextCycle s).tx = s.tx := rfl
@[simp] theorem nextCycle_rx (s : State) : (nextCycle s).rx = s.rx := rfl
@[simp] theorem nextCycle_raw (s : State) : (nextCycle s).raw = s.raw := rfl
@[simp] theorem nextCycle_cmdQ (s : State) : (nextCycle s).cmdQ = s.cmdQ := rfl
@[simp] theorem nextCycle_clkQ (s : State) : (nextCycle s).clkQ = s.clkQ := rfl
@[simp] theorem nextCycle_attQ (s : State) : (nextCycle s).attQ = s.attQ := rfl
@[simp] theorem nextCycle_dsync (s : State) : (nextCycle s).dsync = s.dsync := rfl
@[simp] theorem nextCycle_rdata (s : State) : (nextCycle s).rdata = s.rdata := rfl
@[simp] theorem nextCycle_inputs (s : State) : (nextCycle s).inputs = s.inputs.tail := rfl
@[simp] theorem nextCycle_cycle (s : State) : (nextCycle s).cycle = s.cycle + 1 := rfl

/-! ### noTransaction -/

@[simp] theorem noTransaction_done (s : State) : (noTransaction s).done = s.done := rfl
@[simp] theorem noTransaction_valid (s : State) : (noTransaction s).valid = s.valid := rfl
@[simp] theorem noTransaction_ign (s : State) : (noTransaction s).ign = s.ign := rfl
@[simp] theorem noTransaction_result (s : State) : (noTransaction s).result = s.result := rfl
@[simp] theorem noTransaction_attempts (s : State) : (noTransaction s).attempts = s.attempts := rfl
@[simp] theorem noTransaction_buttons (s : State) : (noTransaction s).buttons = s.buttons := rfl
@[simp] theorem noTransaction_axes (s : State) : (noTransaction s).axes = s.axes := rfl
@[simp] theorem noTransaction_ctype (s : State) : (noTransaction s).ctype = s.ctype := rfl
@[simp] theorem noTransaction_halfPeriod (s : State) : (noTransaction s).halfPeriod = s.halfPeriod := rfl
@[simp] theorem noTransaction_settle (s : State) : (noTransaction s).settle = s.settle := rfl
@[simp] theorem noTransaction_retryMax (s : State) : (noTransaction s).retryMax = s.retryMax := rfl
@[simp] theorem noTransaction_dzRadius (s : State) : (noTransaction s).dzRadius = s.dzRadius := rfl
@[simp] theorem noTransaction_st (s : State) : (noTransaction s).st = s.st := rfl
@[simp] theorem noTransaction_tmr (s : State) : (noTransaction s).tmr = s.tmr := rfl
@[simp] theorem noTransaction_ph (s : State) : (noTransaction s).ph = s.ph := rfl
@[simp] theorem noTransaction_bidx (s : State) : (noTransaction s).bidx = s.bidx := rfl
@[simp] theorem noTransaction_fidx (s : State) : (noTransaction s).fidx = s.fidx := rfl
@[simp] theorem noTransaction_tx (s : State) : (noTransaction s).tx = s.tx := rfl
@[simp] theorem noTransaction_rx (s : State) : (noTransaction s).rx = s.rx := rfl
@[simp] theorem noTransaction_raw (s : State) : (noTransaction s).raw = s.raw := rfl
@[simp] theorem noTransaction_cmdQ (s : State) : (noTransaction s).cmdQ = s.cmdQ := rfl
@[simp] theorem noTransaction_clkQ (s : State) : (noTransaction s).clkQ = s.clkQ := rfl
@[simp] theorem noTransaction_attQ (s : State) : (noTransaction s).attQ = s.attQ := rfl
@[simp] theorem noTransaction_dsync (s : State) : (noTransaction s).dsync = s.dsync := rfl
@[simp] theorem noTransaction_rdata (s : State) : (noTransaction s).rdata = none := rfl
@[simp] theorem noTransaction_inputs (s : State) : (noTransaction s).inputs = s.inputs := rfl
@[simp] theorem noTransaction_cycle (s : State) : (noTransaction s).cycle = s.cycle := rfl

end Sys2Proof.Laws
end

