-- ==== Sys2Proof/Laws/Ops.lean ====
section
/-! SUPPORT. For each shared operation one lemma that says once everything it does: the composite
updates as plain record updates, and the two inversions that later proofs cite instead of unfolding:
what a bus transaction can do (`BusEffect`) and what a state-machine step can do (`FsmEffect`). -/

namespace Sys2Proof.Laws

open Sys2Proof Sys2Proof.Machine

/-! ### Composite updates -/

theorem acceptPoll_eq (s : State) : acceptPoll s =
    { s with attempts := 1, result := .noResult, done := false, attQ := false, st := .attn,
             tmr := halfTicks s } := rfl

theorem cfgFail_eq (s : State) : cfgFail s =
    { s with attempts := 0, result := .invalidConfiguration, done := true } := rfl

theorem loEnd_eq (p s : State) : loEnd p s =
    { s with rx := setBit p.rx p.bidx (lineGet p), ph := .hi, clkQ := true, tmr := halfTicks p } := rfl

theorem hiEnd_eq (p s : State) : hiEnd p s =
    { s with bidx := p.bidx + 1, ph := .lo, cmdQ := p.tx.getLsbD (p.bidx.toNat + 1), clkQ := false,
             tmr := halfTicks p } := rfl

theorem attnEnd_eq (p s : State) : attnEnd p s =
    { s with st := .start, tx := 0x01#8, rx := 0, bidx := 0, ph := .lo, cmdQ := true, clkQ := false,
             tmr := halfTicks p } := rfl

theorem startDone_eq (p s : State) : startDone p s =
    { s with st := .poll, tx := 0x42#8, rx := 0, bidx := 0, ph := .lo, cmdQ := false, clkQ := false,
             tmr := halfTicks p } := rfl

theorem pollDone_eq (c : Byte) (p s : State) : pollDone c p s =
    { s with ctype := c, st := .marker, tx := 0x00#8, rx := 0, bidx := 0, ph := .lo, cmdQ := false,
             clkQ := false, tmr := halfTicks p } := rfl

theorem markerMatch_eq (p s : State) : markerMatch p s =
    { s with fidx := 0, st := .frame, tx := 0x00#8, rx := 0, bidx := 0, ph := .lo, cmdQ := false,
             clkQ := false, tmr := halfTicks p } := rfl

theorem markerMismatch_eq (p s : State) : markerMismatch p s =
    { s with attQ := true, st := .retry, tmr := settleTicks p } := rfl

theorem frameByteDone_eq (c : Byte) (p s : State) : frameByteDone c p s =
    { s with raw := p.raw.set p.fidx c, fidx := p.fidx + 1, tx := 0x00#8, rx := 0, bidx := 0,
             ph := .lo, cmdQ := false, clkQ := false, tmr := halfTicks p } := rfl

theorem frameDone_eq (c : Byte) (p s : State) : frameDone c p s =
    { s with raw := p.raw.set 5 c, attQ := true,
             buttons := (decodeFrame (p.raw.set 5 c) p.dzRadius).1,
             axes := (decodeFrame (p.raw.set 5 c) p.dzRadius).2,
             valid := true, result := .ok, done := true, st := .idle } := rfl

/-! ### Small facts of the operands -/

@[simp] theorem halfTicks_toNat (s : State) : (halfTicks s).toNat = s.halfPeriod.toNat := by
  have := s.halfPeriod.isLt
  simp [halfTicks, BitVec.toNat_setWidth]
  omega

@[simp] theorem settleTicks_toNat (s : State) :
    (settleTicks s).toNat = max s.settle.toNat 1 := by
  unfold settleTicks
  split
  · next h => simp [h]
  · next h =>
      have : s.settle.toNat ≠ 0 := fun h0 => h (BitVec.eq_of_toNat_eq (by simpa using h0))
      omega

theorem setBit_getLsbD (b : Byte) (i : BitVec 3) (v : Bool) (j : Nat) (hj : j < 8) :
    (setBit b i v).getLsbD j = if j = i.toNat then v else b.getLsbD j := by
  have key : ∀ (i : BitVec 3) (j : Fin 8),
      (1#8 <<< i.toNat).getLsbD j.val = decide (j.val = i.toNat) := by decide
  have h := key i ⟨j, hj⟩
  unfold setBit
  cases v <;> simp only [Bool.false_eq_true, if_false, if_true]
  · rw [BitVec.getLsbD_and, BitVec.getLsbD_not, h]
    by_cases e : j = i.toNat <;> simp [e, hj]
  · rw [BitVec.getLsbD_or, h]
    by_cases e : j = i.toNat <;> simp [e]

/-! ### What a bus transaction can do -/

/-- Everything that the bus can make of the pre-edge state (45_host_registers.md R230). -/
inductive BusEffect (s : State) : State → Prop where
  /-- A read, or a cycle with no transaction and no ignored write: only the read port. -/
  | read (v : Word) : BusEffect s (driveRead v s)
  /-- No transaction, NOP, or a write that is ignored. -/
  | nothing : BusEffect s (driveNone s)
  /-- A dropped write. -/
  | dropped : BusEffect s (driveNone (setIgn s))
  /-- A write of STATUS. -/
  | status (d : Word) : BusEffect s (driveNone (statusW1c d s))
  /-- A POLL that fails its configuration check. -/
  | cfgFail (hi : s.st = .idle) (hh : s.halfPeriod = 0) :
      BusEffect s (driveNone (Machine.cfgFail s))
  /-- An accepted POLL. -/
  | accept (hi : s.st = .idle) (hh : s.halfPeriod ≠ 0) :
      BusEffect s (driveNone (acceptPoll s))
  /-- A configuration write while idle. -/
  | config (hi : s.st = .idle) (h : BitVec 16) (p : BitVec 24) (r : BitVec 8) (z : Byte) :
      BusEffect s (driveNone { s with halfPeriod := h, settle := p, retryMax := r, dzRadius := z })

theorem pollCommand_effect (s : State) : BusEffect s (driveNone (pollCommand s)) := by
  unfold pollCommand
  split
  · exact .dropped
  · next hi =>
    have hi' : s.st = .idle := by simpa using hi
    split
    · next hh => exact .cfgFail hi' hh
    · next hh => exact .accept hi' hh

theorem cfgWrite_effect (s : State) (h : BitVec 16) (p : BitVec 24) (r : BitVec 8) (z : Byte) :
    BusEffect s (driveNone (cfgWrite s
      { s with halfPeriod := h, settle := p, retryMax := r, dzRadius := z })) := by
  unfold cfgWrite
  split
  · exact .dropped
  · next hi => exact .config (by simpa using hi) h p r z

end Sys2Proof.Laws
end

