-- ==== Sys2Proof/Laws/Edge.lean ====
section
/-! SUPPORT. What one edge can do: `exec` makes a `BusEffect` of the pre-edge state, the state machine an
`FsmEffect` of that, and `step` is the one under the other. -/

namespace Sys2Proof.Laws

open Sys2Proof Sys2Proof.Machine

/-! ### The bus -/

theorem exec_effect (i : Instr) (s : State) : ∃ b, exec i s = .next b ∧ BusEffect s b := by
  cases i with
  | nop => exact ⟨_, rfl, .nothing⟩
  | poll => exact ⟨_, rfl, pollCommand_effect s⟩
  | cmdRsvd => exact ⟨_, rfl, .dropped⟩
  | wrStatus al d => exact ⟨_, rfl, .status d⟩
  | wrHalf al d => exact ⟨_, rfl, cfgWrite_effect s _ s.settle s.retryMax s.dzRadius⟩
  | wrSettle al d => exact ⟨_, rfl, cfgWrite_effect s s.halfPeriod _ s.retryMax s.dzRadius⟩
  | wrRetry al d => exact ⟨_, rfl, cfgWrite_effect s s.halfPeriod s.settle _ s.dzRadius⟩
  | wrDz al d => exact ⟨_, rfl, cfgWrite_effect s s.halfPeriod s.settle s.retryMax _⟩
  | wrButtons | wrAxes | wrCtype | wrRsvd => exact ⟨_, rfl, .nothing⟩
  | rdCtrl | rdStatus | rdButtons | rdAxes | rdCtype | rdHalf | rdSettle | rdRetry | rdDz | rdRsvd =>
      exact ⟨_, rfl, .read _⟩

/-- A step is the edge over what the bus makes of the state. -/
theorem step_edge (s : State) : ∃ b, BusEffect s b ∧ step s = .next (clockEdge s b) := by
  unfold step
  cases fetch s with
  | none => exact ⟨_, .nothing, rfl⟩
  | some i =>
      obtain ⟨b, hb, he⟩ := exec_effect i s
      exact ⟨b, he, by simp [hb]⟩

theorem after_of_step {s t : State} (h : step s = .next t) : after s = t := by
  simp [after, h]

/-- The edge as a function: `after`. -/
theorem after_edge (s : State) : ∃ b, BusEffect s b ∧ after s = clockEdge s b := by
  obtain ⟨b, hb, h⟩ := step_edge s
  exact ⟨b, hb, after_of_step h⟩

theorem step_after (s : State) : step s = .next (after s) := by
  obtain ⟨b, _, h⟩ := step_edge s
  rw [after_of_step h, h]

/-- While a poll runs, the bus can change only DONE, IGN and the read port (R142, R280 item 7). -/
theorem BusEffect.busy {s b : State} (h : BusEffect s b) (hb : s.st ≠ .idle) :
    b = { s with done := b.done, ign := b.ign, rdata := b.rdata } := by
  cases h with
  | read v => rfl
  | nothing => rfl
  | dropped => rfl
  | status d => rfl
  | cfgFail hi | accept hi | config hi => exact absurd hi hb

/-- While a poll runs, the bus can only clear DONE. -/
theorem BusEffect.busy_done {s b : State} (h : BusEffect s b) (hb : s.st ≠ .idle)
    (hd : s.done = false) : b.done = false := by
  cases h with
  | read v | nothing | dropped => exact hd
  | status d => simp [hd]
  | cfgFail hi | accept hi | config hi => exact absurd hi hb

/-! ### The state machine -/

/-- Everything that a state-machine step can make of `b`, the pre-edge state being `s` (R142). -/
inductive FsmEffect (s b : State) : State → Prop where
  | idle (h : s.st = .idle) : FsmEffect s b b
  | count (h : s.st ≠ .idle) (ht : 1 < s.tmr.toNat) : FsmEffect s b { b with tmr := s.tmr - 1 }
  | attn (h : s.st = .attn) (ht : s.tmr.toNat ≤ 1) : FsmEffect s b (attnEnd s b)
  | lo (h : exchanging s) (ht : s.tmr.toNat ≤ 1) (hp : s.ph = .lo) : FsmEffect s b (loEnd s b)
  | hi (h : exchanging s) (ht : s.tmr.toNat ≤ 1) (hp : s.ph = .hi) (hb : s.bidx.toNat < 7) :
      FsmEffect s b (hiEnd s b)
  | start (h : s.st = .start) (ht : s.tmr.toNat ≤ 1) (hp : s.ph = .hi) (hb : s.bidx.toNat = 7) :
      FsmEffect s b (startDone s b)
  | poll (h : s.st = .poll) (ht : s.tmr.toNat ≤ 1) (hp : s.ph = .hi) (hb : s.bidx.toNat = 7) :
      FsmEffect s b (pollDone s.rx s b)
  | matched (h : s.st = .marker) (ht : s.tmr.toNat ≤ 1) (hp : s.ph = .hi) (hb : s.bidx.toNat = 7)
      (hm : s.rx = 0x5A#8) : FsmEffect s b (markerMatch s b)
  | mismatch (h : s.st = .marker) (ht : s.tmr.toNat ≤ 1) (hp : s.ph = .hi) (hb : s.bidx.toNat = 7)
      (hm : s.rx ≠ 0x5A#8) : FsmEffect s b (markerMismatch s b)
  | frameByte (h : s.st = .frame) (ht : s.tmr.toNat ≤ 1) (hp : s.ph = .hi) (hb : s.bidx.toNat = 7)
      (hf : s.fidx.val < 5) : FsmEffect s b (frameByteDone s.rx s b)
  | frameEnd (h : s.st = .frame) (ht : s.tmr.toNat ≤ 1) (hp : s.ph = .hi) (hb : s.bidx.toNat = 7)
      (hf : s.fidx.val = 5) : FsmEffect s b (frameDone s.rx s b)
  | again (h : s.st = .retry) (ht : s.tmr.toNat ≤ 1) (ha : s.attempts.toNat ≤ s.retryMax.toNat) :
      FsmEffect s b (startAttempt s { b with attempts := s.attempts + 1 })
  | giveUp (h : s.st = .retry) (ht : s.tmr.toNat ≤ 1) (ha : s.retryMax.toNat < s.attempts.toNat) :
      FsmEffect s b (complete .handshakeMismatch b)

theorem bidx_seven {s : State} (h : ¬ s.bidx.toNat < 7) : s.bidx.toNat = 7 := by
  have := s.bidx.isLt
  omega

theorem exchangeEnd_effect {s : State} (b : State) (hx : exchanging s) (ht : s.tmr.toNat ≤ 1) :
    FsmEffect s b (exchangeEnd s b) := by
  unfold exchangeEnd
  cases hp : s.ph with
  | lo => exact .lo hx ht hp
  | hi =>
    simp only
    split
    · next hb => exact .hi hx ht hp hb
    · next hb =>
      have hb := bidx_seven hb
      unfold byteDone
      rcases hx with h | h | h | h <;> simp only [h]
      · exact .start h ht hp hb
      · exact .poll h ht hp hb
      · split
        · next hm => exact .matched h ht hp hb hm
        · next hm => exact .mismatch h ht hp hb hm
      · split
        · next hf => exact .frameByte h ht hp hb hf
        · next hf =>
          have h5 : ¬ s.fidx.val < 5 := hf
          exact .frameEnd h ht hp hb (by have := s.fidx.isLt; omega)

/-- What a state-machine step can do, said once. -/
theorem fsm_effect (s b : State) : FsmEffect s b (fsmStep s b) := by
  unfold fsmStep
  split
  · next h => exact .idle h
  · next h =>
    split
    · next ht => exact .count h ht
    · next ht =>
      have ht : s.tmr.toNat ≤ 1 := by omega
      unfold phaseEnd
      cases hs : s.st with
      | idle => exact absurd hs h
      | attn => exact .attn hs ht
      | start => exact exchangeEnd_effect b (.inl hs) ht
      | poll => exact exchangeEnd_effect b (.inr (.inl hs)) ht
      | marker => exact exchangeEnd_effect b (.inr (.inr (.inl hs))) ht
      | frame => exact exchangeEnd_effect b (.inr (.inr (.inr hs))) ht
      | retry =>
        simp only [retryEnd]
        split
        · next ha => exact .again hs ht ha
        · next ha => exact .giveUp hs ht (by omega)

/-- What a step can do, said once: a reset, or the state machine and the synchroniser over what the bus
made of the state. -/
theorem after_cases (s : State) : ∃ b, BusEffect s b ∧
    (((ports s).rstN = true ∧ ∃ f, FsmEffect s b f ∧
        after s = nextCycle (dsyncShift (ports s).dat s f)) ∨
     ((ports s).rstN = false ∧ after s = nextCycle (resetBlock b))) := by
  obtain ⟨b, hb, h⟩ := after_edge s
  refine ⟨b, hb, ?_⟩
  unfold clockEdge at h
  cases hr : (ports s).rstN with
  | true => exact .inl ⟨rfl, _, fsm_effect s b, by simpa [hr] using h⟩
  | false => exact .inr ⟨rfl, by simpa [hr] using h⟩

end Sys2Proof.Laws
end

