-- ==== Sys2Proof/Laws/Encoding.lean ====
section
/-! SUPPORT. The fields of a built HT41 word, and a word rebuilt from its fields (30_encoding.md R81):
the lemmas that decoding and encoding proofs cite instead of unfolding the concatenation. -/

namespace Sys2Proof.Laws

open Sys2Proof

/-! ### The fields of `htWord` -/

theorem htWord_getLsbD (w : Bool) (slot : SlotIdx) (al : BitVec 2) (d : Word) (i : Nat) :
    (htWord w slot al d).getLsbD i =
      if i < 32 then d.getLsbD i else if i < 34 then al.getLsbD (i - 32)
      else if i < 40 then slot.getLsbD (i - 34) else (BitVec.ofBool w).getLsbD (i - 40) := by
  unfold htWord
  rw [BitVec.getLsbD_append, BitVec.getLsbD_append, BitVec.getLsbD_append]
  by_cases h1 : i < 32
  · simp [h1, show i < 40 by omega, show i < 34 by omega]
  · by_cases h2 : i < 34
    · simp [h1, h2, show i < 40 by omega]
    · by_cases h3 : i < 40
      · simp [h1, h2, h3]
      · simp [h1, h2, h3]

@[simp] theorem htWrite_htWord (w : Bool) (slot : SlotIdx) (al : BitVec 2) (d : Word) :
    htWrite (htWord w slot al d) = w := by
  simp [htWrite, htWord_getLsbD, -BitVec.getLsbD_eq_getElem]

@[simp] theorem htSlot_htWord (w : Bool) (slot : SlotIdx) (al : BitVec 2) (d : Word) :
    htSlot (htWord w slot al d) = slot := by
  apply BitVec.eq_of_getLsbD_eq
  intro i hi
  simp only [htSlot, BitVec.getLsbD_extractLsb', htWord_getLsbD, hi, decide_true, Bool.true_and]
  rw [if_neg (by omega), if_neg (by omega), if_pos (by omega)]
  congr 1; omega

@[simp] theorem htAl_htWord (w : Bool) (slot : SlotIdx) (al : BitVec 2) (d : Word) :
    htAl (htWord w slot al d) = al := by
  apply BitVec.eq_of_getLsbD_eq
  intro i hi
  simp only [htAl, BitVec.getLsbD_extractLsb', htWord_getLsbD, hi, decide_true, Bool.true_and]
  rw [if_neg (by omega), if_pos (by omega)]
  congr 1; omega

@[simp] theorem htData_htWord (w : Bool) (slot : SlotIdx) (al : BitVec 2) (d : Word) :
    htData (htWord w slot al d) = d := by
  apply BitVec.eq_of_getLsbD_eq
  intro i hi
  simp only [htData, BitVec.getLsbD_extractLsb', htWord_getLsbD, hi, decide_true, Bool.true_and]
  rw [if_pos (by omega)]
  congr 1; omega

/-- A word is rebuilt from its four fields: no bit of it is outside them. -/
theorem htWord_fields (x : HT41) : htWord (htWrite x) (htSlot x) (htAl x) (htData x) = x := by
  apply BitVec.eq_of_getLsbD_eq
  intro i hi
  rw [htWord_getLsbD]
  split
  · next h => simp only [htData, BitVec.getLsbD_extractLsb', h, decide_true, Bool.true_and, Nat.zero_add]
  · next h1 =>
    split
    · next h =>
      simp only [htAl, BitVec.getLsbD_extractLsb', show i - 32 < 2 by omega, decide_true, Bool.true_and]
      congr 1; omega
    · next h2 =>
      split
      · next h =>
        simp only [htSlot, BitVec.getLsbD_extractLsb', show i - 34 < 6 by omega, decide_true,
          Bool.true_and]
        congr 1; omega
      · next h3 =>
        have : i = 40 := by omega
        subst this
        unfold htWrite
        cases x.getLsbD 40 <;> rfl

/-! ### The command field of a CTRL write (R82) -/

theorem cmdWord_getLsbD (hi : BitVec 24) (cmd : Byte) (i : Nat) :
    (cmdWord hi cmd).getLsbD i = if i < 8 then cmd.getLsbD i else hi.getLsbD (i - 8) := by
  unfold cmdWord
  rw [BitVec.getLsbD_append]

@[simp] theorem cmdOf_cmdWord (hi : BitVec 24) (cmd : Byte) : cmdOf (cmdWord hi cmd) = cmd := by
  apply BitVec.eq_of_getLsbD_eq
  intro i h
  simp only [cmdOf, BitVec.getLsbD_extractLsb', cmdWord_getLsbD, h, decide_true, Bool.true_and]
  rw [if_pos (by omega)]
  congr 1; omega

@[simp] theorem cmdHigh_cmdWord (hi : BitVec 24) (cmd : Byte) : cmdHigh (cmdWord hi cmd) = hi := by
  apply BitVec.eq_of_getLsbD_eq
  intro i h
  simp only [cmdHigh, BitVec.getLsbD_extractLsb', cmdWord_getLsbD, h, decide_true, Bool.true_and]
  rw [if_neg (by omega)]
  congr 1; omega

/-- The data of a CTRL write is rebuilt from its command and its ignored bits. -/
theorem cmdWord_fields (d : Word) : cmdWord (cmdHigh d) (cmdOf d) = d := by
  apply BitVec.eq_of_getLsbD_eq
  intro i h
  rw [cmdWord_getLsbD]
  split
  · next h8 =>
    simp only [cmdOf, BitVec.getLsbD_extractLsb', h8, decide_true, Bool.true_and, Nat.zero_add]
  · next h8 =>
    simp only [cmdHigh, BitVec.getLsbD_extractLsb', show i - 8 < 24 by omega, decide_true,
      Bool.true_and]
    congr 1; omega

end Sys2Proof.Laws
end

