-- ==== Sys2Proof/Laws/Run.lean ====
section
/-! SUPPORT. Runs of many edges: how the environment's record moves, and runs in which no reset comes. -/

namespace Sys2Proof.Laws

open Sys2Proof Sys2Proof.Machine

/-! ### Runs -/

@[simp] theorem runN_zero (s : State) : runN 0 s = s := rfl

theorem runN_succ (n : Nat) (s : State) : runN (n + 1) s = runN n (after s) := rfl

theorem runN_add (m n : Nat) (s : State) : runN (m + n) s = runN n (runN m s) := by
  induction m generalizing s with
  | zero => simp
  | succ m ih => rw [Nat.add_right_comm, runN_succ, runN_succ, ih]

theorem runN_succ_after (n : Nat) (s : State) : runN (n + 1) s = after (runN n s) := by
  rw [runN_add n 1]; rfl

/-! ### The environment's record -/

theorem BusEffect.record {s b : State} (h : BusEffect s b) :
    b.inputs = s.inputs ∧ b.cycle = s.cycle ∧ b.dsync = s.dsync := by
  cases h <;> exact ⟨rfl, rfl, rfl⟩

theorem FsmEffect.record {s b f : State} (h : FsmEffect s b f) :
    f.inputs = b.inputs ∧ f.cycle = b.cycle ∧ f.ign = b.ign ∧ f.rdata = b.rdata := by
  cases h <;> exact ⟨rfl, rfl, rfl, rfl⟩

theorem after_record (s : State) :
    (after s).inputs = s.inputs.tail ∧ (after s).cycle = s.cycle + 1 := by
  obtain ⟨b, hb, ⟨_, f, hf, h⟩ | ⟨_, h⟩⟩ := after_cases s
  · obtain ⟨h1, h2, _⟩ := hb.record
    obtain ⟨h3, h4, _⟩ := hf.record
    simp [h, h1, h2, h3, h4]
  · obtain ⟨h1, h2, _⟩ := hb.record
    simp [h, resetBlock, h1, h2]

@[simp] theorem runN_inputs (n : Nat) (s : State) : (runN n s).inputs = s.inputs.drop n := by
  induction n generalizing s with
  | zero => simp
  | succ n ih => rw [runN_succ, ih, (after_record s).1, List.drop_tail]

@[simp] theorem runN_cycle (n : Nat) (s : State) : (runN n s).cycle = s.cycle + n := by
  induction n generalizing s with
  | zero => simp
  | succ n ih => rw [runN_succ, ih, (after_record s).2]; omega

/-- The data line before edge `e` of a run is the level that `pinAt` names (R112). -/
theorem ports_runN_dat (e : Nat) (s : State) : (ports (runN e s)).dat = pinAt s e := by
  unfold ports pinAt
  rw [runN_inputs, runN_cycle]
  cases h : s.inputs[e]? with
  | none => rw [List.drop_eq_nil_of_le (by simpa using h)]; rfl
  | some p =>
    obtain ⟨hlt, hp⟩ := List.getElem?_eq_some_iff.mp h
    rw [List.drop_eq_getElem_cons hlt, hp]

/-! ### Runs without reset -/

theorem noReset_mono {m n : Nat} {s : State} (h : noReset n s) (hm : m ≤ n) : noReset m s :=
  fun p hp => h p ((List.take_sublist_take_left hm).subset hp)

theorem noReset_ports {n : Nat} {s : State} (h : noReset n s) {e : Nat} (he : e < n) :
    (ports (runN e s)).rstN = true := by
  unfold ports
  rw [runN_inputs]
  cases hd : s.inputs.drop e with
  | nil => rfl
  | cons p ps =>
    refine h p ?_
    rw [List.mem_take_iff_getElem]
    have hlt : e < s.inputs.length := by
      by_contra hc
      rw [List.drop_eq_nil_of_le (by omega)] at hd
      cases hd
    refine ⟨e, by omega, ?_⟩
    have := List.drop_eq_getElem_cons hlt
    rw [hd] at this
    exact (List.cons.inj this).1.symm

theorem noReset_head {n : Nat} {s : State} (h : noReset (n + 1) s) : (ports s).rstN = true :=
  noReset_ports h (e := 0) (by omega)

theorem noReset_run {m n : Nat} {s : State} (h : noReset (m + n) s) : noReset n (runN m s) := by
  intro p hp
  rw [runN_inputs] at hp
  rw [List.mem_take_iff_getElem] at hp
  obtain ⟨i, hi, rfl⟩ := hp
  rw [List.length_drop] at hi
  refine h _ ?_
  rw [List.getElem_drop, List.mem_take_iff_getElem]
  exact ⟨m + i, by omega, rfl⟩

theorem noReset_after {n : Nat} {s : State} (h : noReset (n + 1) s) : noReset n (after s) :=
  noReset_run (m := 1) (by rwa [Nat.add_comm])

/-- An edge outside reset: the bus, then the state machine, then the synchroniser. -/
theorem after_running {s : State} (h : (ports s).rstN = true) :
    ∃ b f, BusEffect s b ∧ FsmEffect s b f ∧
      after s = nextCycle (dsyncShift (ports s).dat s f) := by
  obtain ⟨b, hb, ⟨_, f, hf, he⟩ | ⟨h0, _⟩⟩ := after_cases s
  · exact ⟨b, f, hb, hf, he⟩
  · rw [h] at h0; cases h0

end Sys2Proof.Laws
end

