-- ==== Sys2Proof/Laws/HostSide.lean ====
section
/-! SUPPORT. The host's functions as runs of edges (30_encoding.md R89, 45_host_registers.md R259, R261):
each of them once, in terms of `after`, so that no proof unfolds `step` to follow a host program. -/

namespace Sys2Proof.Laws

open Sys2Proof Sys2Proof.Machine

/-! ### One cycle -/

theorem cycleOf_eq (s : State) : cycleOf s = some (after s) := by
  unfold cycleOf
  rw [step_after]

theorem busCycle_eq (x : HT41) (s : State) :
    busCycle x s = some (after (presentWord x s), (after (presentWord x s)).rdata) := by
  unfold busCycle
  rw [cycleOf_eq]
  rfl

@[simp] theorem presentAll_nil (s : State) : presentAll [] s = some s := rfl

@[simp] theorem presentAll_cons (x : HT41) (xs : List HT41) (s : State) :
    presentAll (x :: xs) s = presentAll xs (after (presentWord x s)) := by
  rw [presentAll, cycleOf_eq]
  rfl

/-! ### The constructor -/

/-- A failed construction has taken the reset edge and nothing else (R261). -/
theorem construct_error {c : SessionConfig} {e : ProtocolError} (h : constructorWrites c = .error e)
    (s : State) : construct c s = some (after (presentReset s), some e) := by
  unfold construct
  rw [cycleOf_eq, h]
  rfl

/-- A construction is the reset edge and then the writes in order (R261). -/
theorem construct_ok {c : SessionConfig} {ws : List HT41} (h : constructorWrites c = .ok ws)
    (s : State) :
    construct c s = (presentAll ws (after (presentReset s))).map fun u => (u, none) := by
  unfold construct
  rw [cycleOf_eq, h]
  show (presentAll ws (after (presentReset s))).bind _ = _
  cases presentAll ws (after (presentReset s)) <;> rfl

/-! ### `poll()` -/

/-- Everything `poll()` can do: a final STATUS word with code 1 is followed by the two reads, every other
word is the answer by itself (R259). -/
theorem hostPoll_cases {names : Vector AxisName 4} {fuel : Nat} {s u : State}
    {r : Except ProtocolError ControllerState} (h : hostPoll names fuel s = some (u, r)) :
    ∃ t status, pollWait fuel s = some (t, status) ∧
      (resultField status = 1 ∧
          (∃ b a, readState t = some (u, b, a) ∧ pollValue names status b a = some r) ∨
        resultField status ≠ 1 ∧ u = t ∧ pollValue names status 0 0 = some r) := by
  unfold hostPoll at h
  obtain ⟨⟨t, status⟩, hp, h⟩ := Option.bind_eq_some_iff.1 h
  refine ⟨t, status, hp, ?_⟩
  by_cases hc : resultField status = 1
  · obtain ⟨⟨u', b, a⟩, hr, h⟩ := Option.bind_eq_some_iff.1 ((if_pos hc).symm.trans h)
    obtain ⟨r', hv, h⟩ := Option.bind_eq_some_iff.1 h
    cases h
    exact .inl ⟨hc, b, a, hr, hv⟩
  · obtain ⟨r', hv, h⟩ := Option.bind_eq_some_iff.1 ((if_neg hc).symm.trans h)
    cases h
    exact .inr ⟨hc, rfl, hv⟩

end Sys2Proof.Laws
end

