-- ==== Sys2Proof/Laws/PerInstr.lean ====
section
/-! SUPPORT. One statement for every host operation: the head of its encoding, `W` and `A[7:2]`, is that of
a row of the opcode map with its mnemonic (30_encoding.md R84, R85). -/

namespace Sys2Proof.Laws

open Sys2Proof

/-- The row `r` has the mnemonic of `i`, and `i` is encoded with the row's `W` and word slot; the rows of
the reserved offsets each fix only a part of the slot, so for them both are in 9..63. -/
def HeadOf (i : Instr) (r : OpRow) : Prop :=
  r.mnemonic = mnemonicOf i ∧ htWrite r.pattern = htWrite (encode i) ∧
  (htSlot r.pattern = htSlot (encode i) ∨
    9 ≤ (htSlot r.pattern).toNat ∧ 9 ≤ (htSlot (encode i)).toNat)

/-- A well-formed instruction is encoded under a row of the opcode map that has its mnemonic. -/
def EncodedHead.Statement (i : Instr) : Prop :=
  i.wf = true → ∃ r ∈ opcodeRows, HeadOf i r

theorem row_mem (k : Fin 36) : opcodeRows[k.val]'(by simp [opcodeRows, ctrlRows,
    registerRows, reservedRows]) ∈ opcodeRows := List.getElem_mem _

theorem EncodedHead.nop (al : BitVec 2) (hi : BitVec 24) :
    EncodedHead.Statement (.nop al hi) :=
  fun _ => ⟨_, row_mem 0, rfl, by simp only [encode, htWrite_htWord]; rfl, .inl (by simp only [encode, htSlot_htWord]; rfl)⟩

theorem EncodedHead.poll (al : BitVec 2) (hi : BitVec 24) :
    EncodedHead.Statement (.poll al hi) :=
  fun _ => ⟨_, row_mem 1, rfl, by simp only [encode, htWrite_htWord]; rfl, .inl (by simp only [encode, htSlot_htWord]; rfl)⟩

theorem EncodedHead.cmdRsvd (al : BitVec 2) (hi : BitVec 24) (cmd : Byte) :
    EncodedHead.Statement (.cmdRsvd al hi cmd) :=
  fun _ => ⟨_, row_mem 2, rfl, by simp only [encode, htWrite_htWord]; rfl, .inl (by simp only [encode, htSlot_htWord]; rfl)⟩

theorem EncodedHead.rdCtrl (al : BitVec 2) (d : Word) :
    EncodedHead.Statement (.rdCtrl al d) :=
  fun _ => ⟨_, row_mem 9, rfl, by simp only [encode, htWrite_htWord]; rfl, .inl (by simp only [encode, htSlot_htWord]; rfl)⟩

theorem EncodedHead.rdStatus (al : BitVec 2) (d : Word) :
    EncodedHead.Statement (.rdStatus al d) :=
  fun _ => ⟨_, row_mem 10, rfl, by simp only [encode, htWrite_htWord]; rfl, .inl (by simp only [encode, htSlot_htWord]; rfl)⟩

theorem EncodedHead.wrStatus (al : BitVec 2) (d : Word) :
    EncodedHead.Statement (.wrStatus al d) :=
  fun _ => ⟨_, row_mem 11, rfl, by simp only [encode, htWrite_htWord]; rfl, .inl (by simp only [encode, htSlot_htWord]; rfl)⟩

theorem EncodedHead.rdButtons (al : BitVec 2) (d : Word) :
    EncodedHead.Statement (.rdButtons al d) :=
  fun _ => ⟨_, row_mem 12, rfl, by simp only [encode, htWrite_htWord]; rfl, .inl (by simp only [encode, htSlot_htWord]; rfl)⟩

theorem EncodedHead.rdAxes (al : BitVec 2) (d : Word) :
    EncodedHead.Statement (.rdAxes al d) :=
  fun _ => ⟨_, row_mem 13, rfl, by simp only [encode, htWrite_htWord]; rfl, .inl (by simp only [encode, htSlot_htWord]; rfl)⟩

theorem EncodedHead.rdCtype (al : BitVec 2) (d : Word) :
    EncodedHead.Statement (.rdCtype al d) :=
  fun _ => ⟨_, row_mem 14, rfl, by simp only [encode, htWrite_htWord]; rfl, .inl (by simp only [encode, htSlot_htWord]; rfl)⟩

theorem EncodedHead.wrButtons (al : BitVec 2) (d : Word) :
    EncodedHead.Statement (.wrButtons al d) :=
  fun _ => ⟨_, row_mem 15, rfl, by simp only [encode, htWrite_htWord]; rfl, .inl (by simp only [encode, htSlot_htWord]; rfl)⟩

theorem EncodedHead.wrAxes (al : BitVec 2) (d : Word) :
    EncodedHead.Statement (.wrAxes al d) :=
  fun _ => ⟨_, row_mem 16, rfl, by simp only [encode, htWrite_htWord]; rfl, .inl (by simp only [encode, htSlot_htWord]; rfl)⟩

theorem EncodedHead.wrCtype (al : BitVec 2) (d : Word) :
    EncodedHead.Statement (.wrCtype al d) :=
  fun _ => ⟨_, row_mem 17, rfl, by simp only [encode, htWrite_htWord]; rfl, .inl (by simp only [encode, htSlot_htWord]; rfl)⟩

theorem EncodedHead.rdHalf (al : BitVec 2) (d : Word) :
    EncodedHead.Statement (.rdHalf al d) :=
  fun _ => ⟨_, row_mem 18, rfl, by simp only [encode, htWrite_htWord]; rfl, .inl (by simp only [encode, htSlot_htWord]; rfl)⟩

theorem EncodedHead.wrHalf (al : BitVec 2) (d : Word) :
    EncodedHead.Statement (.wrHalf al d) :=
  fun _ => ⟨_, row_mem 19, rfl, by simp only [encode, htWrite_htWord]; rfl, .inl (by simp only [encode, htSlot_htWord]; rfl)⟩

theorem EncodedHead.rdSettle (al : BitVec 2) (d : Word) :
    EncodedHead.Statement (.rdSettle al d) :=
  fun _ => ⟨_, row_mem 20, rfl, by simp only [encode, htWrite_htWord]; rfl, .inl (by simp only [encode, htSlot_htWord]; rfl)⟩

theorem EncodedHead.wrSettle (al : BitVec 2) (d : Word) :
    EncodedHead.Statement (.wrSettle al d) :=
  fun _ => ⟨_, row_mem 21, rfl, by simp only [encode, htWrite_htWord]; rfl, .inl (by simp only [encode, htSlot_htWord]; rfl)⟩

theorem EncodedHead.rdRetry (al : BitVec 2) (d : Word) :
    EncodedHead.Statement (.rdRetry al d) :=
  fun _ => ⟨_, row_mem 22, rfl, by simp only [encode, htWrite_htWord]; rfl, .inl (by simp only [encode, htSlot_htWord]; rfl)⟩

theorem EncodedHead.wrRetry (al : BitVec 2) (d : Word) :
    EncodedHead.Statement (.wrRetry al d) :=
  fun _ => ⟨_, row_mem 23, rfl, by simp only [encode, htWrite_htWord]; rfl, .inl (by simp only [encode, htSlot_htWord]; rfl)⟩

theorem EncodedHead.rdDz (al : BitVec 2) (d : Word) :
    EncodedHead.Statement (.rdDz al d) :=
  fun _ => ⟨_, row_mem 24, rfl, by simp only [encode, htWrite_htWord]; rfl, .inl (by simp only [encode, htSlot_htWord]; rfl)⟩

theorem EncodedHead.wrDz (al : BitVec 2) (d : Word) :
    EncodedHead.Statement (.wrDz al d) :=
  fun _ => ⟨_, row_mem 25, rfl, by simp only [encode, htWrite_htWord]; rfl, .inl (by simp only [encode, htSlot_htWord]; rfl)⟩

theorem EncodedHead.rdRsvd (slot : SlotIdx) (al : BitVec 2) (d : Word) :
    EncodedHead.Statement (.rdRsvd slot al d) :=
  fun h => ⟨_, row_mem 26, rfl, by simp only [encode, htWrite_htWord]; rfl, .inr ⟨by decide, by
    simpa [encode, Instr.wf, reservedSlot] using h⟩⟩

theorem EncodedHead.wrRsvd (slot : SlotIdx) (al : BitVec 2) (d : Word) :
    EncodedHead.Statement (.wrRsvd slot al d) :=
  fun h => ⟨_, row_mem 31, rfl, by simp only [encode, htWrite_htWord]; rfl, .inr ⟨by decide, by
    simpa [encode, Instr.wf, reservedSlot] using h⟩⟩

end Sys2Proof.Laws
end

