-- ==== Sys2Proof/Laws/Phase.lean ====
section
/-! SUPPORT. Timed phases as runs (41_transceiver.md R123): while a poll runs and no reset comes, the
state machine's part of the state moves on its own, whatever the host does; a phase counts down and then
takes its end action. -/

namespace Sys2Proof.Laws

open Sys2Proof Sys2Proof.Machine

/-- `s` with the fields that the host, the synchroniser and the environment move, taken from `u`. -/
def withOuter (s u : State) : State :=
  { s with
    done := u.done, ign := u.ign, rdata := u.rdata
    dsync := u.dsync, inputs := u.inputs, cycle := u.cycle }

theorem withOuter_self (s : State) : withOuter s s = s := rfl

theorem withOuter_withOuter (s u v : State) : withOuter (withOuter s u) v = withOuter s v := rfl

/-- The state machine's step over a state that differs only in DONE, IGN and the read port. -/
theorem fsmStep_outer (s b : State)
    (hb : b = { s with done := b.done, ign := b.ign, rdata := b.rdata }) :
    withOuter (fsmStep s b) s = withOuter (fsmStep s s) s := by
  rw [hb]
  generalize b.done = dn
  generalize b.ign = ig
  generalize b.rdata = rd
  unfold fsmStep phaseEnd exchangeEnd byteDone retryEnd
  split
  · rfl
  · split
    · rfl
    · obtain ⟨⟩ := s
      rename_i st _ ph _ _ _ _ _ _ _ _ _ _ _ _ _ _
      cases st <;> cases ph <;> simp only <;> (repeat' split) <;> rfl

/-- An edge of a running poll, outside reset: the state machine's fields come from `fsmStep` alone. -/
theorem after_busy {s : State} (hs : s.st ≠ .idle) (hr : (ports s).rstN = true) :
    after s = withOuter (fsmStep s s) (after s) := by
  obtain ⟨b, hb, h⟩ := after_edge s
  have e := fsmStep_outer s b (hb.busy hs)
  rw [h]
  unfold clockEdge
  rw [if_pos hr]
  have : ∀ f : State, nextCycle (dsyncShift (ports s).dat s f) =
      withOuter (withOuter f s) (nextCycle (dsyncShift (ports s).dat s f)) := fun f => rfl
  rw [this, e]
  rfl

theorem tmr_pred {t : BitVec 24} (h : 1 < t.toNat) : (t - 1).toNat = t.toNat - 1 := by
  have := t.isLt
  rw [BitVec.toNat_sub]
  simp
  omega

/-- An edge inside a phase only counts it down. -/
theorem after_count {s : State} (hs : s.st ≠ .idle) (hr : (ports s).rstN = true)
    (ht : 1 < s.tmr.toNat) : after s = withOuter { s with tmr := s.tmr - 1 } (after s) := by
  have h := after_busy hs hr
  rw [show fsmStep s s = { s with tmr := s.tmr - 1 } by unfold fsmStep; rw [if_neg hs, if_pos ht]] at h
  exact h

/-- The edge that ends a phase takes its end action. -/
theorem after_end {s : State} (hs : s.st ≠ .idle) (hr : (ports s).rstN = true)
    (ht : s.tmr.toNat ≤ 1) : after s = withOuter (phaseEnd s s) (after s) := by
  have h := after_busy hs hr
  rw [show fsmStep s s = phaseEnd s s by unfold fsmStep; rw [if_neg hs, if_neg (by omega)]] at h
  exact h

/-- Inside a phase a run of `j` edges only counts it down by `j`. -/
theorem run_count (j : Nat) {s : State} (hs : s.st ≠ .idle) (hr : noReset j s)
    (ht : j < s.tmr.toNat) :
    ∃ n : BitVec 24, n.toNat = s.tmr.toNat - j ∧
      runN j s = withOuter { s with tmr := n } (runN j s) := by
  induction j generalizing s with
  | zero => exact ⟨s.tmr, by simp, rfl⟩
  | succ j ih =>
    have h := after_count hs (noReset_head hr) (by omega)
    have hst : (after s).st = s.st := by rw [h]; rfl
    have htm : (after s).tmr.toNat = s.tmr.toNat - 1 := by
      rw [show (after s).tmr = s.tmr - 1 by rw [h]; rfl]
      exact tmr_pred (by omega)
    obtain ⟨n, hn, he⟩ := ih (hst ▸ hs) (noReset_after hr) (by omega)
    refine ⟨n, by omega, ?_⟩
    rw [runN_succ]
    rw [he, h]
    rfl

/-- A whole phase: after `tmr` edges its end action has been taken, on the state of its last cycle. -/
theorem run_phase {s : State} (hs : s.st ≠ .idle) (ht : 1 ≤ s.tmr.toNat)
    (hr : noReset s.tmr.toNat s) :
    ∃ u : State, u = runN (s.tmr.toNat - 1) s ∧ u = withOuter { s with tmr := 1 } u ∧
      runN s.tmr.toNat s = withOuter (phaseEnd u u) (runN s.tmr.toNat s) := by
  obtain ⟨m, hm⟩ : ∃ m, s.tmr.toNat = m + 1 := ⟨s.tmr.toNat - 1, by omega⟩
  rw [hm] at hr ⊢
  obtain ⟨n, hn, he⟩ := run_count m hs (noReset_mono hr (by omega)) (by omega)
  have hn1 : n = 1 := BitVec.eq_of_toNat_eq (by rw [hn]; simp; omega)
  subst hn1
  refine ⟨runN m s, by simp, he, ?_⟩
  have hst : (runN m s).st = s.st := by rw [he]; rfl
  have htm : (runN m s).tmr = 1 := by rw [he]; rfl
  have := after_end (s := runN m s) (hst ▸ hs) (noReset_ports hr (by omega)) (by rw [htm]; decide)
  rwa [← runN_succ_after] at this

end Sys2Proof.Laws
end

