-- ==== Sys2Proof/Tests/Slice0.lean ====
section
/-! SUPPORT. Tests of the model: ill-formed terms, words written out from the opcode map, single steps
with the values of spec/95_test_vectors.md, and for every statement with hypotheses a state and operands
that meet them. -/

namespace Sys2Proof.Tests

open Sys2Proof Sys2Proof.Machine

/-! ### Well-formedness (R82, R85) -/

theorem test_wf_refuses_command_0 : (Instr.cmdRsvd 0 0 0x00).wf = false := by decide
theorem test_wf_refuses_command_1 : (Instr.cmdRsvd 3 7 0x01).wf = false := by decide
theorem test_wf_admits_command_2 : (Instr.cmdRsvd 0 0 0x02).wf = true := by decide
theorem test_wf_refuses_mapped_read_slots :
    ∀ k < 9, (Instr.rdRsvd (BitVec.ofNat 6 k) 0 0).wf = false := by decide
theorem test_wf_refuses_mapped_write_slots :
    ∀ k < 9, (Instr.wrRsvd (BitVec.ofNat 6 k) 0 0).wf = false := by decide
theorem test_wf_admits_slot_9 :
    (Instr.rdRsvd 9 0 0).wf = true ∧ (Instr.wrRsvd 9 0 0).wf = true := by decide

/-! ### Decoding words written out from the map (R85; HR-1 to HR-12) -/

theorem test_decode_nop : decode 0x100FFFFFF00#41 = .nop 0 0xFFFFFF := by decide
theorem test_decode_poll : decode 0x10000000001#41 = .poll 0 0 := by decide
theorem test_decode_poll_high_data : decode 0x10000000101#41 = .poll 0 1 := by decide
theorem test_decode_poll_low_address : decode 0x10300000001#41 = .poll 3 0 := by decide
theorem test_decode_cmdRsvd : decode 0x10000000002#41 = .cmdRsvd 0 0 2 := by decide
theorem test_decode_cmdRsvd_top : decode 0x100000000FF#41 = .cmdRsvd 0 0 0xFF := by decide
theorem test_decode_rdCtrl : decode 0x00300000000#41 = .rdCtrl 3 0 := by decide
theorem test_decode_rdStatus : decode 0x00400000000#41 = .rdStatus 0 0 := by decide
theorem test_decode_wrStatus : decode 0x1040000000A#41 = .wrStatus 0 0xA := by decide
theorem test_decode_rdButtons : decode 0x00800000000#41 = .rdButtons 0 0 := by decide
theorem test_decode_rdAxes : decode 0x00C00000000#41 = .rdAxes 0 0 := by decide
theorem test_decode_rdCtype : decode 0x01000000000#41 = .rdCtype 0 0 := by decide
theorem test_decode_wrButtons : decode 0x1080000FFFF#41 = .wrButtons 0 0xFFFF := by decide
theorem test_decode_wrAxes : decode 0x10C00000001#41 = .wrAxes 0 1 := by decide
theorem test_decode_wrCtype : decode 0x11000000001#41 = .wrCtype 0 1 := by decide
theorem test_decode_rdHalf : decode 0x01400000000#41 = .rdHalf 0 0 := by decide
theorem test_decode_wrHalf : decode 0x11500000005#41 = .wrHalf 1 5 := by decide
theorem test_decode_rdSettle : decode 0x01800000000#41 = .rdSettle 0 0 := by decide
theorem test_decode_wrSettle : decode 0x118FFFFFFFF#41 = .wrSettle 0 0xFFFFFFFF := by decide
theorem test_decode_rdRetry : decode 0x01C00000000#41 = .rdRetry 0 0 := by decide
theorem test_decode_wrRetry : decode 0x11C000001FF#41 = .wrRetry 0 0x1FF := by decide
theorem test_decode_rdDz : decode 0x02000000000#41 = .rdDz 0 0 := by decide
theorem test_decode_wrDz : decode 0x12300000033#41 = .wrDz 3 0x33 := by decide
theorem test_decode_rdRsvd : decode 0x02400000000#41 = .rdRsvd 9 0 0 := by decide
theorem test_decode_wrRsvd : decode 0x1FC00000001#41 = .wrRsvd 63 0 1 := by decide

theorem test_table_word : decodeTableWord 48 0x11400000004 = some (.wrHalf 0 4) := by decide
/-- A number that is no 41-bit word is refused by name. -/
theorem test_decode_refuses_42_bits : decodeNat (2 ^ 41) = .error .wordTooWide := by rfl
theorem test_table_word_too_wide : decodeTableWord 48 (2 ^ 41) = none := by decide

/-! ### States used below -/

/-- Idle, configured with a half-period of 3. -/
def ready : State := { State.reset with halfPeriod := 3 }

/-- In the attention setup of a poll with a half-period of 3. -/
def running : State :=
  { ready with st := .attn, tmr := 3, attQ := false, attempts := 1 }

/-- The cycle presents the word `x`; the data line is high. -/
def given (x : HT41) (s : State) : State := { s with inputs := [⟨true, some (busTxnOf x), true⟩] }

/-- The cycle presents nothing; the data line is high. -/
def calm (s : State) : State := { s with inputs := [⟨true, none, true⟩] }

/-- The cycle holds `rst_n` at 0. -/
def inReset (s : State) : State := { s with inputs := [⟨false, none, true⟩] }

/-- The last cycle of the exchange of a byte in state `k`, with the bits `c` received. -/
def byteEnd (k : St) (c : Byte) : State :=
  { running with st := k, ph := .hi, bidx := 7, tmr := 1, rx := c, tx := byteSent k }

/-- The last cycle of the settle interval. -/
def settleEnd : State := { running with st := .retry, tmr := 1, attQ := true }

/-- The read data after one cycle that presents `x`. -/
def reads (x : HT41) (s : State) : Option Word := (after (given x s)).rdata

/-! ### One step of each operation -/

/-- HR-31. -/
theorem test_nop : statusWord (after (given 0x100FFFFFF00#41 ready)) = 0 := by decide
/-- HS-13: the STATUS after the accepting edge. -/
theorem test_poll : statusWord (after (given 0x10000000001#41 ready)) = 0x00010101 := by decide
/-- EX-1. -/
theorem test_poll_unconfigured :
    statusWord (after (given 0x10000000001#41 State.reset)) = 0x00000032 := by decide
/-- HR-28. -/
theorem test_cmdRsvd : statusWord (after (given 0x10000000007#41 ready)) = 0x8 := by decide
/-- HR-25. -/
theorem test_rdCtrl : reads 0x00000000000#41 running = some 0 := by decide
/-- HS-13, with VALID = 1. -/
theorem test_rdStatus :
    reads 0x00400000000#41 { running with valid := true } = some 0x00010105 := by decide
/-- HR-29: no bit is cleared. -/
theorem test_wrStatus_zeros :
    statusWord (after (given 0x104FFFFFFF5#41 { ready with done := true, ign := true })) = 0xA := by
  decide
/-- HR-30. -/
theorem test_wrStatus_ones :
    statusWord (after (given 0x1040000000A#41 { ready with done := true, ign := true })) = 0 := by
  decide
theorem test_rdButtons : reads 0x00800000000#41 { ready with buttons := 0x4001 } = some 0x4001 := by
  decide
theorem test_rdAxes : reads 0x00C00000000#41 { ready with axes := 0x80004800 } = some 0x80004800 := by
  decide
theorem test_rdCtype : reads 0x01000000000#41 { ready with ctype := 0x73 } = some 0x73 := by decide
/-- HR-26. -/
theorem test_wrButtons :
    (after (given 0x1080000FFFF#41 ready)).buttons = 0 ∧
    (after (given 0x1080000FFFF#41 ready)).ign = false := by decide
theorem test_wrAxes : (after (given 0x10CFFFFFFFF#41 running)).axes = 0 := by decide
theorem test_wrCtype : (after (given 0x110000000FF#41 running)).ctype = 0 := by decide
theorem test_rdHalf : reads 0x01400000000#41 running = some 3 := by decide
/-- HR-20. -/
theorem test_wrHalf : (after (given 0x11400012345#41 ready)).halfPeriod = 0x2345 := by decide
/-- HR-21, the two halves. -/
theorem test_wrSettle : (after (given 0x118FFFFFFFF#41 ready)).settle = 0xFFFFFF := by decide
theorem test_rdSettle : reads 0x01800000000#41 { ready with settle := 0xFFFFFF } = some 0x00FFFFFF := by
  decide
/-- HR-22. -/
theorem test_wrRetry : (after (given 0x11C000001FF#41 ready)).retryMax = 0xFF := by decide
theorem test_rdRetry : reads 0x01C00000000#41 { ready with retryMax := 0xFF } = some 0xFF := by decide
/-- HR-23. -/
theorem test_wrDz : (after (given 0x12000000133#41 ready)).dzRadius = 0x33 := by decide
/-- HR-34. -/
theorem test_wrDz_busy :
    (after (given 0x1200000000A#41 running)).dzRadius = 0 ∧
    (after (given 0x1200000000A#41 running)).ign = true := by decide
theorem test_rdDz : reads 0x02000000000#41 { ready with dzRadius := 0x33 } = some 0x33 := by decide
/-- HR-27. -/
theorem test_rdRsvd : reads 0x04000000000#41 ready = some 0 := by decide
theorem test_wrRsvd : statusWord (after (given 0x1FC00000001#41 ready)) = 0 := by decide

/-! ### Single edges of the state machine and of reset -/

/-- EX-3: a POLL in the cycle of a completion edge is dropped. -/
theorem test_poll_at_completion :
    statusWord (after (given 0x10000000001#41 settleEnd)) = 0x0001002A := by decide
/-- EX-2: a clear of DONE in the cycle of a completion edge loses. -/
theorem test_clear_at_completion :
    statusWord (after (given 0x10400000002#41 settleEnd)) = 0x00010022 := by decide
/-- HS-7: 0xA5 is no marker. -/
theorem test_marker_mismatch : (after (calm (byteEnd .marker 0xA5))).st = .retry := by decide
theorem test_marker_match : (after (calm (byteEnd .marker 0x5A))).st = .frame := by decide
/-- DEC-5 at the completion edge. -/
theorem test_frame_done :
    let t := after (calm { byteEnd .frame 0x00 with
      raw := #v[0x7F, 0xFD, 0x01, 0x13, 0x26, 0], fidx := 5, dzRadius := 51 })
    t.buttons = 0x4001 ∧ t.axes = 0x80004800 ∧ statusWord t = 0x00010016 := by decide
/-- RS-4 and RS-1. -/
theorem test_reset_edge :
    let t := after { running with inputs := [⟨false, some (busTxnOf 0x00400000000#41), true⟩] }
    t.rdata = some 0x00010101 ∧ statusWord t = 0 ∧ levelsOf t = idleLevels := by decide
/-- DZ-8: the comparison does not wrap at 8 bits. -/
theorem test_dz_no_wrap : dz 255 200 = 128 ∧ dz 0 129 = 128 ∧ dz 0 128 = 0 := by decide
/-- DZ-10. -/
theorem test_radius_fifth : radius (1 / 5) = some 51 := by
  norm_num [radius]
  rfl
/-- RS-5 through `poll()`: after reset its value is InvalidConfiguration, a failed construction. -/
theorem test_hostPoll_unconfigured :
    (hostPoll defaultAxisNames 1 State.reset).map (fun p => failedConstruction p.2) = some true := by
  decide
/-- `poll()` whose POLL meets another poll's completion edge reads that poll's result (R259): DEC-3, all
axes +127. -/
theorem test_hostPoll_ok :
    ((hostPoll defaultAxisNames 1 { byteEnd .frame 0xFF with
        raw := Vector.replicate 6 0xFF, fidx := 5 }).map fun p => p.2.toOption.map fun c =>
      c.axes.map Prod.snd) = some (some [127, 127, 127, 127]) := by decide
/-- The opcode-table word placed for the fetch is the one that the next step runs. -/
theorem test_fetch_word :
    (after (State.reset.withFetchWord 48 0x11400000004)).halfPeriod = 4 := by decide

/-! ### Witnesses: the hypotheses of the statements can be met -/

theorem witness_EncodedOperationDecodesToItself :
    (Instr.cmdRsvd 3 0xFFFFFF 0xFF).wf = true ∧ (Instr.rdRsvd 63 1 5).wf = true := by decide

theorem witness_IgnoredBitsOfAWordHaveNoEffect :
    (htWrite 0x00400000000#41 = htWrite 0x00700000005#41 ∧
      htSlot 0x00400000000#41 = htSlot 0x00700000005#41 ∧ htWrite 0x00400000000#41 ≠ true) ∧
    (htWrite 0x11400000004#41 = htWrite 0x11700000004#41 ∧
      htSlot 0x11400000004#41 = htSlot 0x11700000004#41 ∧
      htData 0x11400000004#41 = htData 0x11700000004#41) ∧
    (htWrite 0x10000000001#41 = htWrite 0x10300000101#41 ∧
      htSlot 0x10000000001#41 = htSlot 0x10300000101#41 ∧ htSlot 0x10000000001#41 = 0#6 ∧
      cmdOf (htData 0x10000000001#41) = cmdOf (htData 0x10300000101#41)) := by decide

theorem witness_StepRunsThePresentedOperation :
    (ports (given 0x10000000001#41 ready)).bus = some (busTxnOf 0x10000000001#41) ∧
    (ports (calm ready)).bus = none ∧ (ports (calm ready)).rstN = true ∧
    (ports (inReset ready)).rstN = false := by decide

theorem witness_PlacedWordIsTheNextOperation : (Instr.wrRsvd 9 3 0xFFFFFFFF).wf = true := by decide

theorem witness_PollWhenIdleStartsAnAttempt :
    ready.st = .idle ∧ 1 ≤ ready.halfPeriod.toNat ∧
    1 ≤ ({ ready with halfPeriod := 1 } : State).halfPeriod.toNat := by decide

theorem witness_PollWithZeroHalfPeriodRecordsInvalidConfiguration :
    State.reset.st = .idle ∧ State.reset.halfPeriod = 0 := by decide

theorem witness_ReservedCommandOnlySetsIgn :
    2 ≤ (0x02 : Byte).toNat ∧ 2 ≤ (0xFF : Byte).toNat := by decide

theorem witness_ConfigurationWritesStoreWhenIdleAndDropWhenBusy :
    ready.st = .idle ∧ running.st ≠ .idle := by decide

theorem witness_PollWhileBusyOnlySetsIgn : running.st ≠ .idle ∧ settleEnd.st ≠ .idle := by decide

/-- A state whose next two cycles present `x` and `y`. -/
def twice (x y : HT41) : State :=
  { ready with inputs := [⟨true, some (busTxnOf x), true⟩, ⟨true, some (busTxnOf y), true⟩] }

theorem witness_WriteIsSeenByTheNextCyclesRead :
    (ready.st = .idle ∧ ready.halfPeriod ≠ 0) ∧
    (noReset 2 (twice 0x11400000004#41 0x01400000000#41) ∧
      fetch (twice 0x11400000004#41 0x01400000000#41) = some (.wrHalf 0 4) ∧
      fetch (after (twice 0x11400000004#41 0x01400000000#41)) = some (.rdHalf 0 0)) ∧
    (fetch (twice 0x11800000004#41 0x01800000000#41) = some (.wrSettle 0 4) ∧
      fetch (after (twice 0x11800000004#41 0x01800000000#41)) = some (.rdSettle 0 0)) ∧
    (fetch (twice 0x11C00000004#41 0x01C00000000#41) = some (.wrRetry 0 4) ∧
      fetch (after (twice 0x11C00000004#41 0x01C00000000#41)) = some (.rdRetry 0 0)) ∧
    (fetch (twice 0x12000000004#41 0x02000000000#41) = some (.wrDz 0 4) ∧
      fetch (after (twice 0x12000000004#41 0x02000000000#41)) = some (.rdDz 0 0)) ∧
    (fetch (twice 0x10000000001#41 0x00400000000#41) = some (.poll 0 0) ∧
      fetch (after (twice 0x10000000001#41 0x00400000000#41)) = some (.rdStatus 0 0)) := by decide

theorem witness_RunningPhaseOnlyCountsDown :
    quiet (calm running) ∧ (calm running).st ≠ .idle ∧ 1 < (calm running).tmr.toNat := by decide

theorem witness_AttentionSetupEndsInTheStartByte :
    quiet (calm { running with tmr := 1 }) ∧ (calm { running with tmr := 1 }).st = .attn ∧
    (calm { running with tmr := 1 }).tmr = 1 := by decide

theorem witness_LowPhaseEndsInASample :
    let s := calm { byteEnd .frame 0 with ph := .lo }
    quiet s ∧ exchanging s ∧ s.ph = .lo ∧ s.tmr = 1 := by decide

theorem witness_HighPhaseEndsInTheNextBit :
    let s := calm { byteEnd .start 0 with bidx := 6 }
    quiet s ∧ exchanging s ∧ s.ph = .hi ∧ s.bidx.toNat < 7 ∧ s.tmr = 1 := by decide

theorem witness_StartAndPollBytesLeadToTheMarkerExchange :
    (let s := calm (byteEnd .start 0xFF)
     quiet s ∧ s.ph = .hi ∧ s.bidx = 7 ∧ s.tmr = 1 ∧ s.st = .start) ∧
    (let s := calm (byteEnd .poll 0x73)
     quiet s ∧ s.ph = .hi ∧ s.bidx = 7 ∧ s.tmr = 1 ∧ s.st = .poll) := by decide

theorem witness_MarkerByteDecidesBetweenFrameAndRetry :
    (let s := calm (byteEnd .marker 0x5A)
     quiet s ∧ s.st = .marker ∧ s.ph = .hi ∧ s.bidx = 7 ∧ s.tmr = 1 ∧ s.rx = 0x5A#8) ∧
    (let s := calm (byteEnd .marker 0x5B)
     quiet s ∧ s.st = .marker ∧ s.ph = .hi ∧ s.bidx = 7 ∧ s.tmr = 1 ∧ s.rx ≠ 0x5A#8) := by decide

theorem witness_FrameByteIsStoredAndTheNextBegins :
    let s := calm { byteEnd .frame 0x13 with fidx := 4 }
    quiet s ∧ s.st = .frame ∧ s.ph = .hi ∧ s.bidx = 7 ∧ s.tmr = 1 ∧ s.fidx.val < 5 := by decide

theorem witness_LastFrameByteCommitsTheSnapshot :
    let s := calm { byteEnd .frame 0x13 with fidx := 5 }
    quiet s ∧ s.st = .frame ∧ s.ph = .hi ∧ s.bidx = 7 ∧ s.tmr = 1 ∧ s.fidx = 5 := by decide

theorem witness_SettleEndRetriesOrRecordsMismatch :
    (let s := calm { settleEnd with retryMax := 1 }
     quiet s ∧ s.st = .retry ∧ s.tmr = 1 ∧ s.attempts.toNat ≤ s.retryMax.toNat) ∧
    (let s := calm { settleEnd with retryMax := 255, attempts := 256 }
     quiet s ∧ s.st = .retry ∧ s.tmr = 1 ∧ s.retryMax.toNat < s.attempts.toNat) := by decide

theorem witness_IdleEdgeChangesOnlyTheSynchroniser :
    quiet (calm ready) ∧ (calm ready).st = .idle := by decide

theorem witness_ResetEdgeOverridesEverything :
    ((ports (inReset running)).rstN = false ∧ fetch (inReset running) = none) ∧
    (let s := { running with inputs := [⟨false, some (busTxnOf 0x11400000004#41), true⟩] }
     (ports s).rstN = false ∧ fetch s = some (.wrHalf 0 4)) := by decide

theorem witness_BusAndStateMachineWriteDisjointState :
    (exec (.rdCtrl 0 0) ready = .next { ready with rdata := some 0 } ∧ ready.st = .idle) ∧
    (exec (.poll 0 0) running = .next { running with ign := true } ∧ running.st ≠ .idle) :=
  ⟨⟨rfl, rfl⟩, ⟨rfl, by decide⟩⟩

theorem witness_CompletionSetsDoneOverAnyClear :
    let s := given 0x10400000002#41 settleEnd
    (ports s).rstN = true ∧ s.st ≠ .idle ∧ step s = .next (after s) ∧ (after s).st = .idle :=
  ⟨rfl, by decide, rfl, by decide⟩

theorem witness_BusyCommandsAreDroppedAtTheCompletionEdgeToo :
    let s := given 0x12000000009#41 settleEnd
    (ports s).rstN = true ∧ s.st ≠ .idle ∧ fetch s = some (.wrDz 0 9) ∧
    step s = .next (after s) :=
  ⟨rfl, by decide, by decide, rfl⟩

theorem witness_HostTrafficCannotDisturbARunningPoll :
    let l₁ : List PortsIn := [⟨true, some (busTxnOf 0x10000000001#41), true⟩, ⟨true, none, false⟩]
    let l₂ : List PortsIn := [⟨true, none, true⟩, ⟨true, none, false⟩]
    l₁.map (fun p => (p.rstN, p.dat)) = l₂.map (fun p => (p.rstN, p.dat)) ∧
    ∀ k < 2, (runN k { running with inputs := l₁ }).st ≠ .idle := by decide

theorem witness_EveryStepKeepsTheInvariant :
    Inv (calm running) ∧ step (calm running) = .next (after (calm running)) := ⟨by decide, rfl⟩

/-- A running poll is reachable: HALF is written, then a POLL. -/
theorem witness_LineInvariantsHoldInEveryReachableState : ∃ s, Reachable s ∧ s.st = .attn :=
  ⟨_, ⟨[⟨true, some (busTxnOf 0x11400000003#41), true⟩,
        ⟨true, some (busTxnOf 0x10000000001#41), true⟩], 2, rfl⟩, by decide⟩

theorem witness_ReachableStatusHoldsNoReservedCode : ∃ s, Reachable s ∧ statusWord s = 0x00000032 :=
  ⟨_, ⟨[⟨true, some (busTxnOf 0x10000000001#41), true⟩], 1, rfl⟩, by decide⟩

theorem witness_SnapshotChangesOnlyOnSuccess :
    let s := calm { byteEnd .frame 0x13 with fidx := 5 }
    (ports s).rstN = true ∧ step s = .next (after s) ∧ (after s).valid ≠ s.valid ∧
    ({ s with valid := true } : State).valid = true := ⟨rfl, rfl, by decide, rfl⟩

theorem witness_FrameIsCapturedOnlyAfterTheMarker :
    let s := calm (byteEnd .marker 0x5A)
    step s = .next (after s) ∧ (after s).st = .frame ∧ s.st ≠ .frame :=
  ⟨rfl, by decide, by decide⟩

theorem witness_ConfigurationIsConstantDuringAPoll :
    let s := given 0x11400000004#41 running
    (ports s).rstN = true ∧ s.st ≠ .idle ∧ step s = .next (after s) := ⟨rfl, by decide, rfl⟩

theorem witness_CommandLineChangesOnlyWithAFallingClock :
    let s := calm { running with tmr := 1 }
    Inv s ∧ (ports s).rstN = true ∧ step s = .next (after s) ∧ (after s).cmdQ ≠ s.cmdQ :=
  ⟨by decide, rfl, rfl, by decide⟩

theorem witness_EveryEdgeOfAPollIsOneCycleOfItsDuration :
    (Inv (calm running) ∧ (calm running).st ≠ .idle ∧ (ports (calm running)).rstN = true ∧
      step (calm running) = .next (after (calm running)) ∧ (after (calm running)).st ≠ .idle) ∧
    (Inv (calm settleEnd) ∧ (calm settleEnd).st ≠ .idle ∧ (ports (calm settleEnd)).rstN = true ∧
      step (calm settleEnd) = .next (after (calm settleEnd)) ∧ (after (calm settleEnd)).st = .idle) :=
  ⟨⟨by decide, by decide, rfl, rfl, by decide⟩, ⟨by decide, by decide, rfl, rfl, by decide⟩⟩

/-- A POLL presented to the configured block. -/
def accepting : State := given 0x10000000001#41 ready

theorem accepting_noReset (n : Nat) : noReset n accepting := by
  intro p hp
  have := List.mem_of_mem_take hp
  simp only [accepting, given, List.mem_singleton] at this
  rw [this]

theorem witness_AcceptedPollCompletesInTheStatedCycles :
    Inv accepting ∧ accepting.st = .idle ∧ accepting.halfPeriod ≠ 0 ∧
    fetch accepting = some (.poll 0 0) ∧ noReset (longestPoll + 1) accepting :=
  ⟨by decide, rfl, by decide, by decide, accepting_noReset _⟩

theorem witness_WaitIdleAlwaysEnds : Inv running ∧ Inv State.reset := ⟨by decide, by decide⟩

theorem witness_LineGetReturnsThePinSyncStagesAgo :
    noReset (3 + ready.dsync.depth) ready ∧ ready.dsync.depth = 2 := by decide

theorem witness_ByteExchangeAssemblesItsEightSamples :
    let s := { running with st := .start, ph := .lo, bidx := 0, rx := 0, tmr := 3, tx := 1, cmdQ := true,
                            clkQ := false }
    exchanging s ∧ s.ph = .lo ∧ s.bidx = 0 ∧ s.rx = 0 ∧ s.halfPeriod ≠ 0 ∧
    s.tmr.toNat = hTicks s ∧ noReset (16 * hTicks s) s := by decide

/-- The edges of the open band for radius 51: 78 and 178 inside, 77 and 179 outside; the radii 1, 129
and 128. -/
theorem witness_DeadZoneCentresExactlyTheOpenBand :
    (128 < (78 : Byte).toNat + (51 : Byte).toNat ∧ (178 : Byte).toNat < 128 + (51 : Byte).toNat) ∧
    ¬ (128 < (77 : Byte).toNat + (51 : Byte).toNat) ∧ ¬ ((179 : Byte).toNat < 128 + (51 : Byte).toNat) ∧
    (1 : Byte).toNat ≤ 1 ∧ 129 ≤ (129 : Byte).toNat ∧
    (1 ≤ (128 : Byte).toNat ∧ (128 : Byte).toNat ≤ 128) := by decide

theorem witness_BitReversalMovesEveryBitAndIsItsOwnInverse : (7 : Nat) < 8 := by decide

theorem witness_ButtonIsPressedWhenItsWireBitIsZero : (0 : Nat) < 8 ∧ (7 : Nat) < 8 := by decide

theorem witness_RadiusIsTheExactCeiling :
    radius (1 / 5) = some 51 ∧ (0 ≤ (1 : Rat) ∧ (1 : Rat) ≤ 1) ∧ ¬ (0 ≤ (2 : Rat) ∧ (2 : Rat) ≤ 1) :=
  ⟨test_radius_fifth, by norm_num, by norm_num⟩

/-- All four writes, and the form without SETTLE and RETRY with the default fraction 0.0. -/
theorem witness_ConstructorWritesConfigureTheBlock :
    (constructorWrites ⟨4, some 0, some 3, 1 / 5⟩ =
        .ok [0x11400000004#41, 0x11800000000#41, 0x11C00000003#41, 0x12000000033#41] ∧
      radius (1 / 5) = some 51 ∧ ready.st = .idle) ∧
    (constructorWrites { half := 4 } = .ok [0x11400000004#41, 0x12000000000#41] ∧
      radius 0 = some 0) ∧
    constructorWrites { half := 0 } = .error .invalidConfiguration ∧
    constructorWrites { half := 4, deadzone := 2 } = .error .invalidConfiguration := by
  have h0 : radius 0 = some 0 := by
    norm_num [radius]
    rfl
  have h2 : radius 2 = none := by
    norm_num [radius]
  refine ⟨⟨?_, test_radius_fifth, rfl⟩, ⟨?_, h0⟩, rfl, ?_⟩
  · unfold constructorWrites asmSetDz
    rw [test_radius_fifth]
    rfl
  · unfold constructorWrites asmSetDz
    rw [h0]
    rfl
  · unfold constructorWrites asmSetDz
    rw [h2]
    rfl

theorem witness_CycleExactPollAgreesWithTheEventLevelPoll (n : Nat) :
    Inv accepting ∧ accepting.st = .idle ∧ accepting.halfPeriod ≠ 0 ∧
    fetch accepting = some (.poll 0 0) ∧ noReset (n + 1) accepting :=
  ⟨by decide, rfl, by decide, by decide, accepting_noReset _⟩

theorem witness_LinesCarryTheEventLevelWaveform (n : Nat) :
    Inv accepting ∧ accepting.st = .idle ∧ accepting.halfPeriod ≠ 0 ∧
    fetch accepting = some (.poll 0 0) ∧ noReset (n + 1) accepting :=
  ⟨by decide, rfl, by decide, by decide, accepting_noReset _⟩

end Sys2Proof.Tests
end

section
/-! SUPPORT. The state family (10_state.md): the STATUS word as a number, the invariant over one edge and
over every run from reset, and the frames of the snapshot and of the configuration. -/

namespace Sys2Proof.Proofs

open Sys2Proof Sys2Proof.Machine Sys2Proof.Laws

/-! ### The STATUS word (R24, R28-R31) -/

theorem toNat_append_eq_add {m n : Nat} (x : BitVec m) (y : BitVec n) :
    (x ++ y).toNat = x.toNat * 2 ^ n + y.toNat := by
  rw [BitVec.toNat_append, ← Nat.shiftLeft_add_eq_or_of_lt y.isLt, Nat.shiftLeft_eq]

theorem busy_toNat (s : State) : (busy s).toNat = if s.st = .idle then 0 else 1 := by
  by_cases h : s.st = .idle <;> simp [busy, h]

theorem statusWord_toNat (s : State) : (statusWord s).toNat =
    s.attempts.toNat * 2 ^ 16 + s.st.code.toNat * 2 ^ 8 + s.result.code.toNat * 2 ^ 4 +
      s.ign.toNat * 8 + s.valid.toNat * 4 + s.done.toNat * 2 + (if s.st = .idle then 0 else 1) := by
  simp only [statusWord, toNat_append_eq_add, BitVec.toNat_ofBool, busy_toNat, BitVec.toNat_ofNat]
  omega

/-- Settles O19: the word is the sum of its fields, and the codes are read off their tables. -/
theorem statusWordPacksItsFields : Obligations.StatusWordPacksItsFields :=
  ⟨statusWord_toNat, rfl, rfl⟩

/-- The four flags below RESULT fill bits 3..0. -/
theorem statusFlags_lt (s : State) :
    s.ign.toNat * 8 + s.valid.toNat * 4 + s.done.toNat * 2 + (if s.st = .idle then 0 else 1) < 16 := by
  have hi := s.ign.toNat_le
  have hv := s.valid.toNat_le
  have hd := s.done.toNat_le
  split <;> omega

/-- A read of STATUS finds each field where R31 puts it, and 0 in the reserved bits. -/
theorem statusWord_fields (s : State) :
    ((statusWord s).extractLsb' 4 4).toNat = s.result.code.toNat ∧
    ((statusWord s).extractLsb' 8 4).toNat = s.st.code.toNat ∧
    ((statusWord s).extractLsb' 16 9).toNat = s.attempts.toNat ∧
    ((statusWord s).extractLsb' 12 4).toNat = 0 ∧ ((statusWord s).extractLsb' 25 7).toNat = 0 := by
  have hf := statusFlags_lt s
  have hr := s.result.code.isLt
  have hs := s.st.code.isLt
  have ha := s.attempts.isLt
  simp only [BitVec.extractLsb'_toNat, Nat.shiftRight_eq_div_pow, statusWord_toNat]
  refine ⟨?_, ?_, ?_, ?_, ?_⟩ <;> omega

theorem stCode_le (x : St) : x.code.toNat ≤ 6 := by
  cases x <;> decide

theorem resultCode_le {r : PollResult} (h : r ≠ .lineFault) : r.code.toNat ≤ 3 := by
  cases r with
  | lineFault => exact absurd rfl h
  | noResult | ok | handshakeMismatch | invalidConfiguration => decide

/-! ### The reset state (R49) -/

/-- Settles O32: each element is read off `State.reset`. -/
theorem resetLeavesTheStatedValues : Obligations.ResetLeavesTheStatedValues := by
  unfold Obligations.ResetLeavesTheStatedValues
  decide

/-- Settles O38: the lines are at their idle levels and no poll runs. -/
theorem invariantHoldsAtReset : Obligations.InvariantHoldsAtReset := by
  unfold Obligations.InvariantHoldsAtReset
  decide

/-! ### The invariant under the operations of an edge (R50) -/

theorem halfPeriod_pos {s : State} (h : s.halfPeriod ≠ 0) : 1 ≤ s.halfPeriod.toNat :=
  Nat.one_le_iff_ne_zero.mpr fun h0 => h (BitVec.eq_of_toNat_eq h0)

/-- Outside an exchange the clock and the command line are at their idle levels. -/
theorem clk_cmd_of_not_exchanging {s : State} (hi : Inv s) (hx : ¬ exchanging s) :
    s.clkQ = true ∧ s.cmdQ = false := by
  obtain ⟨_, hclk, hcmd, _⟩ := hi
  exact ⟨by simpa [ClkLine, hx] using hclk, hcmd.2 hx⟩

/-- The idle levels are all that R50 asks of these two lines outside an exchange. -/
theorem clkLine_cmdLine_of_idle_levels {s : State} (hx : ¬ exchanging s)
    (hl : s.clkQ = true ∧ s.cmdQ = false) : ClkLine s ∧ CmdLine s := by
  obtain ⟨hclk, hcmd⟩ := hl
  exact ⟨by simp [ClkLine, hclk, hx], fun h => absurd h hx, fun _ => hcmd⟩

/-- While a poll runs no result is recorded, and DONE is clear (R28, R231). -/
theorem done_clear_of_busy {s : State} (hres : Result s) (hs : s.st ≠ .idle) : s.done = false := by
  obtain ⟨_, hnone, hdone, _⟩ := hres
  by_contra h
  exact hdone (by simpa using h) (hnone hs)

/-- The start of an attempt, on an accepted POLL and after a mismatch (R143). -/
theorem inv_startAttempt {p b : State} (hH : p.halfPeriod = b.halfPeriod) (h0 : b.halfPeriod ≠ 0)
    (hlines : b.clkQ = true ∧ b.cmdQ = false) (ha : 1 ≤ b.attempts.toNat)
    (hmax : b.attempts.toNat ≤ b.retryMax.toNat + 1) (hres : b.result = .noResult)
    (hdone : b.done = false) (hsnap : Snapshot b) : Inv (startAttempt p b) := by
  have hpos := halfPeriod_pos h0
  have hr := b.retryMax.isLt
  have hnx : ¬ exchanging (startAttempt p b) := by simp [exchanging]
  obtain ⟨hclk, hcmd⟩ := clkLine_cmdLine_of_idle_levels hnx hlines
  refine ⟨?att, hclk, hcmd, ?timer, ?attempts, ?result, hsnap⟩
  case att => simp [AttLine]
  case timer => exact fun _ => ⟨h0, by simpa [hH] using hpos, by simp [hH]⟩
  case attempts => exact ⟨by rw [startAttempt_attempts]; omega, fun _ => ⟨ha, hmax⟩⟩
  case result => simp [Result, hres, hdone]

theorem exchanging_busy {s : State} (hx : exchanging s) : s.st ≠ .idle ∧ s.st ≠ .retry := by
  rcases hx with h | h | h | h <;> simp [h]

/-- The first byte of an attempt and each byte after it: the exchange begins (R124) with the byte that
the new state sends (R145), and only the state, CTYPE and the captured frame have moved on. -/
theorem inv_beginByte {s b : State} {c : Byte} (hi : Inv s) (hs : s.st = .attn ∨ exchanging s)
    (hx : exchanging b)
    (hb : b = { s with st := b.st, ctype := b.ctype, raw := b.raw, fidx := b.fidx })
    (hc : c = byteSent b.st) : Inv (beginByte c s b) := by
  obtain ⟨hatt, _, _, htmr, hatm, ⟨hfault, hnone, hdone, hok⟩, hsnap⟩ := hi
  have hbusy : s.st ≠ .idle := by rcases hs with h | h | h | h | h <;> simp [h]
  obtain ⟨_, hretry⟩ := exchanging_busy hx
  generalize b.st = st, b.ctype = ct, b.raw = raw, b.fidx = fi at *
  subst hb
  obtain ⟨h0, -, -⟩ := htmr hbusy
  have hpos := halfPeriod_pos h0
  refine ⟨?att, ?clk, ?cmd, ?timer, ?attempts, ?result, hsnap⟩
  case att => exact ⟨fun _ => .inr hx, fun _ => hatt.2 hs⟩
  case clk => exact ⟨fun _ => ⟨hx, rfl⟩, fun _ => rfl⟩
  case cmd => exact ⟨fun _ => ⟨hc, rfl⟩, fun h => absurd hx h⟩
  case timer => exact fun _ => ⟨h0, by simpa using hpos, by simp [hretry]⟩
  case attempts => exact ⟨hatm.1, fun _ => hatm.2 hbusy⟩
  case result => exact ⟨hfault, fun _ => hnone hbusy, hdone, hok⟩

/-- The end of a LO half: the clock rises, the command line keeps its bit (R125). -/
theorem inv_loEnd {s : State} (hi : Inv s) (hx : exchanging s) : Inv (loEnd s s) := by
  obtain ⟨hatt, _, hcmd, htmr, hatm, hres, hsnap⟩ := hi
  obtain ⟨hbusy, hretry⟩ := exchanging_busy hx
  obtain ⟨h0, -, -⟩ := htmr hbusy
  have hpos := halfPeriod_pos h0
  rw [loEnd_eq]
  refine ⟨hatt, ?clk, hcmd, ?timer, hatm, hres, hsnap⟩
  case clk => simp [ClkLine]
  case timer => exact fun _ => ⟨h0, by simpa using hpos, by simp [hretry]⟩

/-- The end of a HI half within a byte: the next bit is driven as the clock falls (R126). -/
theorem inv_hiEnd {s : State} (hi : Inv s) (hx : exchanging s) (hb : s.bidx.toNat < 7) :
    Inv (hiEnd s s) := by
  obtain ⟨hatt, _, hcmd, htmr, hatm, hres, hsnap⟩ := hi
  obtain ⟨hbusy, hretry⟩ := exchanging_busy hx
  obtain ⟨h0, -, -⟩ := htmr hbusy
  have hpos := halfPeriod_pos h0
  obtain ⟨htx, -⟩ := hcmd.1 hx
  have hnext : (s.bidx + 1).toNat = s.bidx.toNat + 1 := by bv_omega
  rw [hiEnd_eq]
  refine ⟨hatt, ?clk, ?cmd, ?timer, hatm, hres, hsnap⟩
  case clk => exact ⟨fun _ => ⟨hx, rfl⟩, fun _ => rfl⟩
  case cmd => exact ⟨fun _ => ⟨htx, by simp only [hnext]⟩, fun h => absurd hx h⟩
  case timer => exact fun _ => ⟨h0, by simpa using hpos, by simp [hretry]⟩

/-- The high half of the last bit leaves the command line and the clock at their idle levels, where the
byte sent is 0x00. -/
theorem clk_cmd_at_byte_end {s : State} (hi : Inv s) (hx : exchanging s)
    (hsent : byteSent s.st = 0x00#8) (hp : s.ph = .hi) : s.clkQ = true ∧ s.cmdQ = false := by
  obtain ⟨_, hclk, hcmd, _⟩ := hi
  obtain ⟨htx, hbit⟩ := hcmd.1 hx
  constructor
  · simpa [ClkLine, hp] using hclk
  · simp [hbit, htx, hsent]

/-- A marker mismatch raises attention for the settle interval (R158). -/
theorem inv_markerMismatch {s : State} (hi : Inv s) (hs : s.st = .marker) (hp : s.ph = .hi) :
    Inv (markerMismatch s s) := by
  have hlines : s.clkQ = true ∧ s.cmdQ = false :=
    clk_cmd_at_byte_end hi (by simp [exchanging, hs]) (congrArg byteSent hs) hp
  obtain ⟨_, _, _, htmr, hatm, ⟨hfault, hnone, hdone, hok⟩, hsnap⟩ := hi
  have hbusy : s.st ≠ .idle := by simp [hs]
  obtain ⟨h0, -, -⟩ := htmr hbusy
  have hnx : ¬ exchanging (markerMismatch s s) := by simp [exchanging, markerMismatch_eq]
  obtain ⟨hclk, hcmd⟩ := clkLine_cmdLine_of_idle_levels hnx hlines
  rw [markerMismatch_eq] at *
  refine ⟨?att, hclk, hcmd, ?timer, ?attempts, ?result, hsnap⟩
  case att => simp [AttLine, exchanging]
  case timer => exact fun _ => ⟨h0, by simp, by simp⟩
  case attempts => exact ⟨hatm.1, fun _ => hatm.2 hbusy⟩
  case result => exact ⟨hfault, fun _ => hnone hbusy, hdone, hok⟩

/-- The sixth frame byte raises attention and commits the snapshot with the result OK (R154). -/
theorem inv_frameDone {s : State} (hi : Inv s) (hs : s.st = .frame) (hp : s.ph = .hi) :
    Inv (frameDone s.rx s s) := by
  have hlines : s.clkQ = true ∧ s.cmdQ = false :=
    clk_cmd_at_byte_end hi (by simp [exchanging, hs]) (congrArg byteSent hs) hp
  obtain ⟨_, _, _, _, hatm, _, _⟩ := hi
  have hnx : ¬ exchanging (frameDone s.rx s s) := by simp [exchanging, frameDone_eq]
  obtain ⟨hclk, hcmd⟩ := clkLine_cmdLine_of_idle_levels hnx hlines
  rw [frameDone_eq] at *
  refine ⟨?att, hclk, hcmd, fun h => absurd rfl h, ⟨hatm.1, fun h => absurd rfl h⟩, ?result, nofun⟩
  case att => simp [AttLine, exchanging]
  case result => simp [Result]

/-- The settle interval ends with one more attempt, where the bound allows it (R160). -/
theorem inv_nextAttempt {s : State} (hi : Inv s) (hs : s.st = .retry)
    (ha : s.attempts.toNat ≤ s.retryMax.toNat) :
    Inv (startAttempt s { s with attempts := s.attempts + 1 }) := by
  have hlines : s.clkQ = true ∧ s.cmdQ = false :=
    clk_cmd_of_not_exchanging hi (by simp [exchanging, hs])
  obtain ⟨_, _, _, htmr, hatm, hres, hsnap⟩ := hi
  have hbusy : s.st ≠ .idle := by simp [hs]
  have hclear := done_clear_of_busy hres hbusy
  obtain ⟨_, hnone, _⟩ := hres
  have hr := s.retryMax.isLt
  have hnext : (s.attempts + 1).toNat = s.attempts.toNat + 1 := by bv_omega
  obtain ⟨h0, -, -⟩ := htmr hbusy
  exact inv_startAttempt rfl h0 hlines (by simp only [hnext]; omega)
    (by simp only [hnext]; omega) (hnone hbusy) hclear hsnap

/-- The settle interval ends the poll, where no attempt is left (R160). -/
theorem inv_giveUp {s : State} (hi : Inv s) (hs : s.st = .retry) :
    Inv (complete .handshakeMismatch s) := by
  have hlines : s.clkQ = true ∧ s.cmdQ = false :=
    clk_cmd_of_not_exchanging hi (by simp [exchanging, hs])
  obtain ⟨hatt, _, _, _, hatm, _, hsnap⟩ := hi
  have hnx : ¬ exchanging (complete .handshakeMismatch s) := by simp [exchanging]
  obtain ⟨hclk, hcmd⟩ := clkLine_cmdLine_of_idle_levels hnx hlines
  refine ⟨?att, hclk, hcmd, fun h => absurd rfl h, ⟨hatm.1, fun h => absurd rfl h⟩, ?result, hsnap⟩
  case att => simpa [AttLine, exchanging, hs] using hatt
  case result => simp [Result]

/-- What the bus does keeps the invariant (R230). -/
theorem busEffect_keeps_inv {s b : State} (h : BusEffect s b) (hi : Inv s) : Inv b := by
  have hlines := clk_cmd_of_not_exchanging hi
  obtain ⟨hatt, hclk, hcmd, htmr, hatm, hres, hsnap⟩ := hi
  obtain ⟨hfault, hnone, hdone, hok⟩ := hres
  cases h with
  | read v | nothing | dropped =>
    exact ⟨hatt, hclk, hcmd, htmr, hatm, ⟨hfault, hnone, hdone, hok⟩, hsnap⟩
  | status d =>
    refine ⟨hatt, hclk, hcmd, htmr, hatm, ⟨hfault, hnone, fun h => hdone ?_, hok⟩, hsnap⟩
    simp only [driveNone_done, statusW1c_done, Bool.and_eq_true] at h
    exact h.1
  | cfgFail hidle hH =>
    unfold Machine.cfgFail
    refine ⟨hatt, hclk, hcmd, ?timer, ?attempts, ?result, hsnap⟩
    case timer => simp [Timer, hidle]
    case attempts => simp [Attempts, hidle]
    case result => simp [Result, hidle]
  | accept hidle hH =>
    have hnx : ¬ exchanging s := by simp [exchanging, hidle]
    exact inv_startAttempt (b := { s with attempts := 1, result := .noResult, done := false }) rfl hH
      (hlines hnx) (Nat.le_refl 1) (Nat.le_add_left 1 _) rfl rfl hsnap
  | config hidle h p r z =>
    exact ⟨hatt, hclk, hcmd, fun h => absurd hidle h, ⟨hatm.1, fun h => absurd hidle h⟩,
      ⟨hfault, hnone, hdone, hok⟩, hsnap⟩

theorem fsmEffect_of_idle {s b f : State} (h : FsmEffect s b f) (hs : s.st = .idle) : f = b := by
  cases h with
  | idle _ => rfl
  | count h => exact absurd hs h
  | lo hx | hi hx => simp [exchanging, hs] at hx
  | attn h | start h | poll h | matched h | mismatch h | frameByte h | frameEnd h | again h
  | giveUp h => rw [hs] at h; cases h

/-- DONE rises only with a recorded result (R272). -/
theorem fsmEffect_done {s b f : State} (h : FsmEffect s b f) (hb : b.done = false)
    (hf : f.done = true) : f.result ≠ .noResult := by
  cases h with
  | frameEnd | giveUp => exact nofun
  | idle | count | attn | lo | hi | start | poll | matched | mismatch | frameByte | again =>
    simp [attnEnd, loEnd, hiEnd, startDone, pollDone, markerMatch, markerMismatch, frameByteDone,
      hb] at hf

/-- The state machine's step keeps the invariant (R142). -/
theorem fsmEffect_keeps_inv {s f : State} (h : FsmEffect s s f) (hi : Inv s) : Inv f := by
  cases h with
  | idle => exact hi
  | count h ht =>
    obtain ⟨hatt, hclk, hcmd, htmr, hatm, hres, hsnap⟩ := hi
    obtain ⟨h0, _, hle⟩ := htmr h
    have hpred := tmr_pred ht
    have hpos : 1 ≤ (s.tmr - 1).toNat := hpred ▸ Nat.le_sub_one_of_lt ht
    have hlen : (s.tmr - 1).toNat ≤ s.tmr.toNat := hpred ▸ Nat.sub_le _ _
    exact ⟨hatt, hclk, hcmd, fun _ => ⟨h0, hpos, hlen.trans hle⟩, hatm, hres, hsnap⟩
  | attn h => exact inv_beginByte hi (.inl h) (.inl rfl) rfl rfl
  | lo hx => exact inv_loEnd hi hx
  | hi hx _ _ hb => exact inv_hiEnd hi hx hb
  | start h => exact inv_beginByte hi (by simp [exchanging, h]) (.inr (.inl rfl)) rfl rfl
  | poll h => exact inv_beginByte hi (by simp [exchanging, h]) (.inr (.inr (.inl rfl))) rfl rfl
  | matched h => exact inv_beginByte hi (by simp [exchanging, h]) (.inr (.inr (.inr rfl))) rfl rfl
  | mismatch h _ hp => exact inv_markerMismatch hi h hp
  | frameByte h =>
    exact inv_beginByte hi (by simp [exchanging, h]) (.inr (.inr (.inr h))) rfl
      (congrArg byteSent h).symm
  | frameEnd h _ hp => exact inv_frameDone hi h hp
  | again h _ ha => exact inv_nextAttempt hi h ha
  | giveUp h => exact inv_giveUp hi h

/-- Of the fields that move without the state machine, the invariant reads only DONE. -/
theorem inv_withOuter {f u : State} (hi : Inv f) (hu : u.done = true → f.result ≠ .noResult) :
    Inv (withOuter f u) := by
  obtain ⟨hatt, hclk, hcmd, htmr, hatm, ⟨hfault, hnone, _, hok⟩, hsnap⟩ := hi
  exact ⟨hatt, hclk, hcmd, htmr, hatm, ⟨hfault, hnone, hu, hok⟩, hsnap⟩

/-- An edge of a running poll: the state machine's step, with the DONE that the bus has left (R142). -/
theorem after_busy_keeps_inv {s : State} (hi : Inv s) (hs : s.st ≠ .idle)
    (hr : (ports s).rstN = true) : Inv (after s) := by
  have hstep : Inv (fsmStep s s) := fsmEffect_keeps_inv (fsm_effect s s) hi
  have hout : after s = withOuter (fsmStep s s) (after s) := after_busy hs hr
  have hresult : (after s).result = (fsmStep s s).result := by rw [hout]; rfl
  obtain ⟨_, _, _, _, _, hres, _⟩ := hi
  have hclear := done_clear_of_busy hres hs
  obtain ⟨b, f, hb, hf, he⟩ := after_running hr
  have hrecorded : (after s).done = true → (after s).result ≠ .noResult := by
    rw [he]
    simpa using fsmEffect_done hf (hb.busy_done hs hclear)
  rw [hout]
  exact inv_withOuter hstep (hresult ▸ hrecorded)

/-- An edge keeps the invariant, whatever the environment presents. -/
theorem after_keeps_inv {s : State} (hi : Inv s) : Inv (after s) := by
  obtain ⟨b, hb, ⟨hr, f, hf, h⟩ | ⟨_, h⟩⟩ := after_cases s
  · by_cases hs : s.st = .idle
    · have hb' : Inv b := busEffect_keeps_inv hb hi
      rw [h, fsmEffect_of_idle hf hs]
      exact hb'
    · exact after_busy_keeps_inv hi hs hr
  · rw [h]
    exact invariantHoldsAtReset

/-- Settles O39: the bus and the state machine each keep the invariant, and so does a reset edge. -/
theorem everyStepKeepsTheInvariant : Obligations.EveryStepKeepsTheInvariant := by
  intro s t hi h
  rw [← after_of_step h]
  exact after_keeps_inv hi

/-! ### Every reachable state (R302) -/

/-- What holds in the reset state under every environment and is kept by every edge holds in every
reachable state. -/
theorem reachable_induction {P : State → Prop} (h0 : ∀ l, P { State.reset with inputs := l })
    (hstep : ∀ s, P s → P (after s)) {s : State} (hs : Reachable s) : P s := by
  obtain ⟨l, n, rfl⟩ := hs
  induction n with
  | zero => exact h0 l
  | succ n ih => rw [runN_succ_after]; exact hstep _ ih

theorem reachable_inv {s : State} (hs : Reachable s) : Inv s :=
  reachable_induction (P := Inv) (fun _ => invariantHoldsAtReset) (fun _ => after_keeps_inv) hs

/-- Settles O40: the five items of R50 are read off the invariant. -/
theorem lineInvariantsHoldInEveryReachableState :
    Obligations.LineInvariantsHoldInEveryReachableState := by
  intro s hs
  obtain ⟨hatt, hclk, hcmd, htmr, _, _, _⟩ := reachable_inv hs
  have hx : s.st ∈ [St.start, .poll, .marker, .frame] ↔ exchanging s := by simp [exchanging]
  refine ⟨by simp [busy], ?att, ?clk, ?cmd, ?timer⟩
  case att => rw [List.mem_cons, hx]; exact hatt
  case clk => rw [hx]; exact hclk.1
  case cmd =>
    intro h
    refine hcmd.2 fun hx => ?_
    rcases hx with hx | hx | hx | hx <;> simp [hx] at h
  case timer =>
    intro h
    obtain ⟨_, hpos, _⟩ := htmr h
    exact hpos

/-- Settles O41: the fields of STATUS are those of the state, and the invariant bounds RESULT and
ATTEMPTS. -/
theorem reachableStatusHoldsNoReservedCode : Obligations.ReachableStatusHoldsNoReservedCode := by
  intro s hs
  obtain ⟨_, _, _, _, ⟨hatm, _⟩, ⟨hfault, _⟩, _⟩ := reachable_inv hs
  obtain ⟨hres, hst, hatt, h12, h25⟩ := statusWord_fields s
  exact ⟨hres ▸ resultCode_le hfault, hst ▸ stCode_le s.st, hatt ▸ hatm,
    BitVec.eq_of_toNat_eq h12, BitVec.eq_of_toNat_eq h25⟩

/-! ### What an edge leaves unchanged (R41, R43) -/

theorem busEffect_snapshot {s b : State} (h : BusEffect s b) :
    b.buttons = s.buttons ∧ b.axes = s.axes ∧ b.valid = s.valid := by
  cases h <;> exact ⟨rfl, rfl, rfl⟩

/-- The state machine writes the snapshot only at the end of the sixth frame byte, with OK (R156). -/
theorem fsmEffect_snapshot {s b f : State} (h : FsmEffect s b f) :
    (f.buttons = b.buttons ∧ f.axes = b.axes ∧ f.valid = b.valid) ∨
    (s.st = .frame ∧ s.fidx = 5 ∧ s.ph = .hi ∧ s.bidx = 7 ∧
      f.st = .idle ∧ f.result = .ok ∧ f.valid = true) := by
  cases h with
  | frameEnd hs _ hp hb hf =>
    exact .inr ⟨hs, Fin.ext hf, hp, BitVec.eq_of_toNat_eq hb, rfl, rfl, rfl⟩
  | idle | count | attn | lo | hi | start | poll | matched | mismatch | frameByte | again | giveUp =>
    left
    simp [attnEnd, loEnd, hiEnd, startDone, pollDone, markerMatch, markerMismatch, frameByteDone]

/-- Settles O42: the bus never writes the snapshot, and the state machine only where it records OK. -/
theorem snapshotChangesOnlyOnSuccess : Obligations.SnapshotChangesOnlyOnSuccess := by
  intro s t hr h
  obtain ⟨b, f, hb, hf, he⟩ := after_running hr
  rw [after_of_step h] at he
  subst he
  obtain ⟨hbtn, haxes, hvalid⟩ := busEffect_snapshot hb
  obtain ⟨hbtn', haxes', hvalid'⟩ | hdone := fsmEffect_snapshot hf
  · simp [hbtn, haxes, hvalid, hbtn', haxes', hvalid']
  · obtain ⟨hs, hfi, hp, hbi, hst, hres, hv⟩ := hdone
    exact ⟨fun _ => hv, fun _ => ⟨hs, hfi, hp, hbi, hst, hres, hv⟩⟩

theorem fsmEffect_config {s b f : State} (h : FsmEffect s b f) :
    f.halfPeriod = b.halfPeriod ∧ f.settle = b.settle ∧ f.retryMax = b.retryMax ∧
    f.dzRadius = b.dzRadius := by
  cases h <;>
    simp [attnEnd, loEnd, hiEnd, startDone, pollDone, markerMatch, markerMismatch, frameByteDone,
      frameDone, commitSnapshot]

/-- Settles O44: a busy bus drops configuration writes, and the state machine never writes them. -/
theorem configurationIsConstantDuringAPoll : Obligations.ConfigurationIsConstantDuringAPoll := by
  intro s t hr hs h
  obtain ⟨b, f, hb, hf, he⟩ := after_running hr
  rw [after_of_step h] at he
  subst he
  have hconf := fsmEffect_config hf
  rw [hb.busy hs] at hconf
  exact hconf

end Sys2Proof.Proofs
end

section
/-! SUPPORT. The register space and its words (20_memory.md): what a decoded read and a decoded write do,
said without the bits of the word that the block ignores, and the bytes of a register through a byte
bridge. -/

namespace Sys2Proof.Proofs

open Sys2Proof Sys2Proof.Machine

/-! ### Ignored bits (R63, R81, R82) -/

theorem decode_of_write {x : HT41} (h : htWrite x = true) :
    decode x = decodeWrite (htSlot x) (htAl x) (htData x) := by
  simp only [decode, h]

theorem decode_of_read {x : HT41} (h : htWrite x = false) :
    decode x = decodeRead (htSlot x) (htAl x) (htData x) := by
  simp only [decode, h]

/-- A read drives the word of its slot, and neither `A[1:0]` nor the data enters (R64, R230). -/
theorem exec_decodeRead (slot : SlotIdx) (al : BitVec 2) (d : Word) (s : State) :
    exec (decodeRead slot al d) s = .next (driveRead (readWord slot s) s) := by
  unfold decodeRead readWord
  generalize slot.toNat = n
  match n with
  | 0 | 1 | 2 | 3 | 4 | 5 | 6 | 7 | 8 | _ + 9 => rfl

/-- A CTRL write does what its command code selects, and nothing else of the word enters (R82). -/
theorem exec_decodeCtrlWrite (al : BitVec 2) (d : Word) (s : State) :
    exec (decodeCtrlWrite al d) s = .next (driveNone
      (if (cmdOf d).toNat = 0 then s else if (cmdOf d).toNat = 1 then pollCommand s
        else setIgn s)) := by
  unfold decodeCtrlWrite
  split
  case h_1 h => rw [if_pos h]; rfl
  case h_2 h => rw [if_neg (by omega), if_pos h]; rfl
  case h_3 h0 h1 => rw [if_neg h0, if_neg h1]; rfl

/-- `A[1:0]` does not enter a write. -/
theorem exec_decodeWrite_al (slot : SlotIdx) (al al' : BitVec 2) (d : Word) (s : State) :
    exec (decodeWrite slot al d) s = exec (decodeWrite slot al' d) s := by
  unfold decodeWrite
  split
  case h_1 => simp only [exec_decodeCtrlWrite]
  all_goals rfl

theorem decodeWrite_ctrl (al : BitVec 2) (d : Word) :
    decodeWrite 0#6 al d = decodeCtrlWrite al d := rfl

/-- Settles O4: a read depends on its slot alone, a write on its slot and data, and a CTRL write on its
command code alone. -/
theorem ignoredBitsOfAWordHaveNoEffect : Obligations.IgnoredBitsOfAWordHaveNoEffect := by
  intro x y s hw hslot hdata
  cases hx : htWrite x with
  | false => simp only [decode_of_read hx, decode_of_read (hw ▸ hx), exec_decodeRead, hslot]
  | true =>
    rw [decode_of_write hx, decode_of_write (hw ▸ hx), ← hslot]
    rcases hdata hx with hd | ⟨h0, hcmd⟩
    · rw [hd]
      exact exec_decodeWrite_al _ _ _ _ _
    · simp only [h0, decodeWrite_ctrl, exec_decodeCtrlWrite, hcmd]

/-! ### The byte bridge (R66) -/

/-- The byte at offset `k` of a slot is byte `k` of the word that a read of the slot returns. -/
theorem bridgeByte_append (slot : SlotIdx) (k : BitVec 2) (s : State) :
    bridgeByte (slot ++ k) s = (readWord slot s).extractLsb' (8 * k.toNat) 8 := by
  simp only [bridgeByte, BitVec.extractLsb'_append_eq_left, BitVec.extractLsb'_append_eq_right]

/-- A word is the concatenation of its bytes. -/
theorem bytes_append_eq (w : Word) :
    w.extractLsb' 24 8 ++ (w.extractLsb' 16 8 ++ (w.extractLsb' 8 8 ++ w.extractLsb' 0 8)) = w := by
  rw [BitVec.extractLsb'_append_extractLsb'_eq_extractLsb' (by rfl),
    BitVec.extractLsb'_append_extractLsb'_eq_extractLsb' (by rfl),
    BitVec.extractLsb'_append_extractLsb'_eq_extractLsb' (by rfl)]
  exact BitVec.extractLsb'_eq_self

/-- Settles O20: byte `k` of the slot stands at offset `k`, and the four bytes make up the word. -/
theorem byteBridgeIsLittleEndian : Obligations.ByteBridgeIsLittleEndian := by
  intro slot s
  simp only [bridgeByte_append]
  exact bytes_append_eq _

end Sys2Proof.Proofs
end

section
/-! SUPPORT. The encoding family (30_encoding.md): the decoder and the encoder undo each other, and each
word is covered by one row of the opcode map; what a placed word does in its cycle. -/

namespace Sys2Proof.Proofs

open Sys2Proof Sys2Proof.Machine Sys2Proof.Laws

/-! ### Decoding an encoded operation (R81, R84) -/

@[simp] theorem decode_htWord_write (slot : SlotIdx) (al : BitVec 2) (d : Word) :
    decode (htWord true slot al d) = decodeWrite slot al d := by
  simp [decode_of_write]

@[simp] theorem decode_htWord_read (slot : SlotIdx) (al : BitVec 2) (d : Word) :
    decode (htWord false slot al d) = decodeRead slot al d := by
  simp [decode_of_read]

theorem decodeCtrlWrite_reserved {cmd : Byte} (h : reservedCmd cmd = true) (al : BitVec 2)
    (hi : BitVec 24) : decodeCtrlWrite al (cmdWord hi cmd) = .cmdRsvd al hi cmd := by
  have hcmd : 2 ≤ cmd.toNat := of_decide_eq_true h
  unfold decodeCtrlWrite
  simp only [cmdOf_cmdWord, cmdHigh_cmdWord]
  split
  · omega
  · omega
  · rfl

theorem decodeWrite_reserved {slot : SlotIdx} (h : reservedSlot slot = true) (al : BitVec 2)
    (d : Word) : decodeWrite slot al d = .wrRsvd slot al d := by
  have hslot : 9 ≤ slot.toNat := of_decide_eq_true h
  unfold decodeWrite
  split
  case h_10 => rfl
  all_goals omega

theorem decodeRead_reserved {slot : SlotIdx} (h : reservedSlot slot = true) (al : BitVec 2)
    (d : Word) : decodeRead slot al d = .rdRsvd slot al d := by
  have hslot : 9 ≤ slot.toNat := of_decide_eq_true h
  unfold decodeRead
  split
  case h_10 => rfl
  all_goals omega

/-- Settles O1: the head of the encoding selects the operation's own branch of the decoder, and the
operands are the word's fields. -/
theorem encodedOperationDecodesToItself : Obligations.EncodedOperationDecodesToItself := by
  intro i hwf
  cases i with
  | nop al hi | poll al hi =>
    simp only [encode, decode_htWord_write, decodeWrite_ctrl, decodeCtrlWrite, cmdOf_cmdWord,
      cmdHigh_cmdWord]
    rfl
  | cmdRsvd al hi cmd =>
    rw [encode, decode_htWord_write, decodeWrite_ctrl, decodeCtrlWrite_reserved hwf]
  | rdRsvd slot al d => rw [encode, decode_htWord_read, decodeRead_reserved hwf]
  | wrRsvd slot al d => rw [encode, decode_htWord_write, decodeWrite_reserved hwf]
  | rdCtrl | rdStatus | rdButtons | rdAxes | rdCtype | rdHalf | rdSettle | rdRetry | rdDz =>
    rw [encode, decode_htWord_read]
    rfl
  | wrStatus | wrButtons | wrAxes | wrCtype | wrHalf | wrSettle | wrRetry | wrDz =>
    rw [encode, decode_htWord_write]
    rfl

/-! ### Encoding a decoded word (R84, R86) -/

theorem eq_ofNat_of_toNat_eq {w n : Nat} {x : BitVec w} (h : x.toNat = n) : x = BitVec.ofNat w n := by
  rw [← h, BitVec.ofNat_toNat, BitVec.setWidth_eq]

/-- `i` is well-formed and `x` is its word. -/
def IsWordOf (x : HT41) (i : Instr) : Prop := i.wf = true ∧ encode i = x

theorem isWordOf_decodeRead (slot : SlotIdx) (al : BitVec 2) (d : Word) :
    IsWordOf (htWord false slot al d) (decodeRead slot al d) := by
  unfold decodeRead
  split
  case h_10 =>
    simp only [imp_false] at *
    exact ⟨decide_eq_true (by omega), rfl⟩
  all_goals
    next h =>
    obtain rfl := eq_ofNat_of_toNat_eq h
    exact ⟨rfl, rfl⟩

theorem isWordOf_decodeCtrlWrite (al : BitVec 2) (d : Word) :
    IsWordOf (htWord true 0#6 al d) (decodeCtrlWrite al d) := by
  unfold decodeCtrlWrite
  split
  case h_3 =>
    simp only [imp_false] at *
    exact ⟨decide_eq_true (by omega), by rw [encode, cmdWord_fields]⟩
  all_goals
    next h =>
    have hcmd := eq_ofNat_of_toNat_eq h
    exact ⟨rfl, by rw [encode, ← hcmd, cmdWord_fields]⟩

theorem isWordOf_decodeWrite (slot : SlotIdx) (al : BitVec 2) (d : Word) :
    IsWordOf (htWord true slot al d) (decodeWrite slot al d) := by
  unfold decodeWrite
  split
  case h_1 h =>
    obtain rfl := eq_ofNat_of_toNat_eq h
    exact isWordOf_decodeCtrlWrite al d
  case h_10 =>
    simp only [imp_false] at *
    exact ⟨decide_eq_true (by omega), rfl⟩
  all_goals
    next h =>
    obtain rfl := eq_ofNat_of_toNat_eq h
    exact ⟨rfl, rfl⟩

/-- Settles O2: each branch of the decoder yields a well-formed operation that keeps the word's fields,
and the fields make up the word. -/
theorem everyWordIsOneWellFormedOperation : Obligations.EveryWordIsOneWellFormedOperation := by
  intro x
  rw [← htWord_fields x]
  cases htWrite x with
  | false => rw [decode_htWord_read]; exact isWordOf_decodeRead _ _ _
  | true => rw [decode_htWord_write]; exact isWordOf_decodeWrite _ _ _

/-! ### The opcode map (R85) -/

theorem htWord_and (w w' : Bool) (slot slot' : SlotIdx) (al al' : BitVec 2) (d d' : Word) :
    htWord w slot al d &&& htWord w' slot' al' d' =
      htWord (w && w') (slot &&& slot') (al &&& al') (d &&& d') := by
  unfold htWord
  refine BitVec.and_append.trans ?_
  rw [BitVec.and_append, BitVec.and_append, BitVec.ofBool_and_ofBool]

theorem cmdWord_and (hi hi' : BitVec 24) (cmd cmd' : Byte) :
    cmdWord hi cmd &&& cmdWord hi' cmd' = cmdWord (hi &&& hi') (cmd &&& cmd') :=
  BitVec.and_append

theorem htWord_inj {w w' : Bool} {slot slot' : SlotIdx} {al al' : BitVec 2} {d d' : Word}
    (h : htWord w slot al d = htWord w' slot' al' d') : w = w' ∧ slot = slot' := by
  have hw := congrArg htWrite h
  have hs := congrArg htSlot h
  simp only [htWrite_htWord, htSlot_htWord] at hw hs
  exact ⟨hw, hs⟩

/-- The bits that tell the registers and the direction apart: `W` and `A[7:2]` (R63). -/
def headBits : HT41 := htWord true (BitVec.allOnes 6) 0 0

/-- The bits that R82 and R84 decode: the head and `D[7:0]`. -/
def decodedBits : HT41 := htWord true (BitVec.allOnes 6) 0 (cmdWord 0 (BitVec.allOnes 8))

theorem and_headBits (w : Bool) (slot : SlotIdx) (al : BitVec 2) (d : Word) :
    htWord w slot al d &&& headBits = htWord w slot 0 0 := by
  rw [headBits, htWord_and, Bool.and_true, BitVec.and_allOnes]
  simp

theorem and_decodedBits (w : Bool) (slot : SlotIdx) (al : BitVec 2) (d : Word) :
    htWord w slot al d &&& decodedBits = htWord w slot 0 (cmdWord 0 (cmdOf d)) := by
  rw [decodedBits, htWord_and, ← cmdWord_fields d, cmdWord_and, Bool.and_true,
    BitVec.and_allOnes, BitVec.and_allOnes, cmdOf_cmdWord]
  simp

/-- A row whose mask lies within `k` looks at no other bit. -/
theorem covers_and {r : OpRow} {k : HT41} (h : k &&& r.mask = r.mask) (x : HT41) :
    r.covers (x &&& k) = r.covers x := by
  rw [OpRow.covers, OpRow.covers, BitVec.and_assoc, h]

theorem ctrlRows_mask {r : OpRow} (hr : r ∈ ctrlRows) :
    decodedBits &&& r.mask = r.mask ∧ r.mask &&& headBits = headBits ∧
      r.pattern &&& headBits = htWord true 0 0 0 := by
  revert r
  decide

theorem otherRows_mask {r : OpRow} (hr : r ∈ registerRows ++ reservedRows) :
    headBits &&& r.mask = r.mask := by
  revert r
  decide

/-- A row of CTRL writes covers nothing else. -/
theorem head_of_ctrlRow_covers {r : OpRow} (hr : r ∈ ctrlRows) {w : Bool} {slot : SlotIdx}
    {al : BitVec 2} {d : Word} (h : r.covers (htWord w slot al d) = true) :
    w = true ∧ slot = 0 := by
  obtain ⟨_, hmask, hpattern⟩ := ctrlRows_mask hr
  have hx : htWord w slot al d &&& r.mask = r.pattern := by simpa [OpRow.covers] using h
  refine htWord_inj (al := 0) (d := 0) (al' := 0) (d' := 0) ?_
  rw [← and_headBits w slot al d, ← hpattern, ← hx, BitVec.and_assoc, hmask]

/-- The mnemonics of the rows among `rows` that cover `x`. -/
def coveringMnemonics (rows : List OpRow) (x : HT41) : List String :=
  (rows.filter fun r => r.covers x).map OpRow.mnemonic

theorem coveringMnemonics_append (rows rows' : List OpRow) (x : HT41) :
    coveringMnemonics (rows ++ rows') x = coveringMnemonics rows x ++ coveringMnemonics rows' x := by
  simp [coveringMnemonics]

theorem coveringMnemonics_eq_nil {rows : List OpRow} {x : HT41}
    (h : ∀ r ∈ rows, ¬ r.covers x = true) : coveringMnemonics rows x = [] := by
  rw [coveringMnemonics, List.filter_eq_nil_iff.2 h, List.map_nil]

/-- Rows whose masks lie within `k` cover a word as they cover its bits in `k`. -/
theorem coveringMnemonics_and {rows : List OpRow} {k : HT41}
    (h : ∀ r ∈ rows, k &&& r.mask = r.mask) (x : HT41) :
    coveringMnemonics rows (x &&& k) = coveringMnemonics rows x := by
  rw [coveringMnemonics, coveringMnemonics, List.filter_congr fun r hr => covers_and (h r hr) x]

theorem mnemonicOf_decodeCtrlWrite (al : BitVec 2) (d : Word) :
    mnemonicOf (decodeCtrlWrite al d) = mnemonicOf (decodeCtrlWrite 0 (cmdWord 0 (cmdOf d))) := by
  unfold decodeCtrlWrite
  rw [cmdOf_cmdWord]
  split <;> rfl

theorem mnemonicOf_decodeRead (slot : SlotIdx) (al : BitVec 2) (d : Word) :
    mnemonicOf (decodeRead slot al d) = mnemonicOf (decodeRead slot 0 0) := by
  unfold decodeRead
  split <;> rfl

theorem mnemonicOf_decodeWrite {slot : SlotIdx} (h : slot ≠ 0) (al : BitVec 2) (d : Word) :
    mnemonicOf (decodeWrite slot al d) = mnemonicOf (decodeWrite slot 0 0) := by
  unfold decodeWrite
  split
  case h_1 h0 => exact absurd (BitVec.eq_of_toNat_eq h0) h
  all_goals rfl

/-- The rows of a CTRL write split the 256 command codes (R82). -/
theorem ctrlRows_split_commands : ∀ cmd : Byte,
    coveringMnemonics ctrlRows (htWord true 0 0 (cmdWord 0 cmd)) =
      [mnemonicOf (decodeCtrlWrite 0 (cmdWord 0 cmd))] := by decide

/-- The other rows split the reads of the 64 word slots. -/
theorem otherRows_split_reads : ∀ slot : SlotIdx,
    coveringMnemonics (registerRows ++ reservedRows) (htWord false slot 0 0) =
      [mnemonicOf (decodeRead slot 0 0)] := by decide

/-- The other rows split the writes of the word slots but CTRL, and cover no CTRL write. -/
theorem otherRows_split_writes : ∀ slot : SlotIdx,
    coveringMnemonics (registerRows ++ reservedRows) (htWord true slot 0 0) =
      if slot = 0 then [] else [mnemonicOf (decodeWrite slot 0 0)] := by decide

theorem coveringMnemonics_ctrlRows (al : BitVec 2) (d : Word) :
    coveringMnemonics ctrlRows (htWord true 0 al d) = [mnemonicOf (decodeCtrlWrite al d)] := by
  rw [← coveringMnemonics_and (fun _ hr => (ctrlRows_mask hr).1), and_decodedBits,
    ctrlRows_split_commands, ← mnemonicOf_decodeCtrlWrite]

theorem coveringMnemonics_otherRows (w : Bool) (slot : SlotIdx) (al : BitVec 2) (d : Word) :
    coveringMnemonics (registerRows ++ reservedRows) (htWord w slot al d) =
      coveringMnemonics (registerRows ++ reservedRows) (htWord w slot 0 0) := by
  rw [← coveringMnemonics_and (fun _ => otherRows_mask), and_headBits]

/-- The rows that cover a word carry one mnemonic, once: that of its operation. -/
theorem coveringMnemonics_opcodeRows (x : HT41) :
    coveringMnemonics opcodeRows x = [mnemonicOf (decode x)] := by
  rw [← htWord_fields x]
  generalize htSlot x = slot, htAl x = al, htData x = d
  rw [opcodeRows, coveringMnemonics_append, coveringMnemonics_otherRows]
  cases htWrite x with
  | false =>
    have hctrl : coveringMnemonics ctrlRows (htWord false slot al d) = [] :=
      coveringMnemonics_eq_nil fun r hr hc => absurd (head_of_ctrlRow_covers hr hc).1 (by simp)
    rw [hctrl, otherRows_split_reads, decode_htWord_read, ← mnemonicOf_decodeRead, List.nil_append]
  | true =>
    rw [otherRows_split_writes, decode_htWord_write]
    by_cases hslot : slot = 0
    · subst hslot
      rw [coveringMnemonics_ctrlRows, if_pos rfl, List.append_nil]
      rfl
    · have hctrl : coveringMnemonics ctrlRows (htWord true slot al d) = [] :=
        coveringMnemonics_eq_nil fun r hr hc => hslot (head_of_ctrlRow_covers hr hc).2
      rw [hctrl, if_neg hslot, ← mnemonicOf_decodeWrite hslot, List.nil_append]

/-- Settles O3: a CTRL write is covered among the rows of its command codes, every other word among the
rows of its head, and both sets of rows are split by evaluation. -/
theorem opcodeRowsAreDisjointAndCoverEveryWord :
    Obligations.OpcodeRowsAreDisjointAndCoverEveryWord := by
  refine ⟨rfl, fun x => ?_⟩
  obtain ⟨r, hr, hm⟩ := List.map_eq_singleton_iff.1 (coveringMnemonics_opcodeRows x)
  exact ⟨r, hr, hm⟩

/-- Settles O5: each word is decoded by evaluation. -/
theorem sampleWordsDecodeAsTheMapSays : Obligations.SampleWordsDecodeAsTheMapSays := by
  unfold Obligations.SampleWordsDecodeAsTheMapSays
  decide

/-! ### A word placed in the coming cycle (R110, R142) -/

/-- The bus carries every field of a word. -/
@[simp] theorem busTxnOf_word (x : HT41) : (busTxnOf x).word = x := by
  unfold BusTxn.word busTxnOf
  rw [BitVec.extractLsb'_append_eq_left, BitVec.extractLsb'_append_eq_right, htWord_fields]

@[simp] theorem ports_presentWord (x : HT41) (s : State) :
    ports (presentWord x s) = ⟨true, some (busTxnOf x), (ports s).dat⟩ := rfl

theorem fetch_presentWord (x : HT41) (s : State) : fetch (presentWord x s) = some (decode x) := by
  simp [fetch]

theorem step_presentWord {x : HT41} {s b : State}
    (h : exec (decode x) (presentWord x s) = .next b) :
    step (presentWord x s) = .next (clockEdge (presentWord x s) b) := by
  simp only [step, fetch_presentWord, h]

/-- An encoded word fits the bits of an opcode-table word. -/
theorem withFetchWord_encode (i : Instr) (s : State) :
    s.withFetchWord 48 (encode i).toNat = presentWord (encode i) s := by
  have hlt := (encode i).isLt
  rw [State.withFetchWord, Nat.mod_eq_of_lt (by omega), BitVec.ofNat_toNat, BitVec.setWidth_eq]

/-- Settles O7: the placed word is presented whole, and by O1 it is decoded to the operation. -/
theorem placedWordIsTheNextOperation : Obligations.PlacedWordIsTheNextOperation := by
  intro i s hwf
  obtain ⟨b, hb, -⟩ := exec_effect i (presentWord (encode i) s)
  rw [withFetchWord_encode]
  refine ⟨rfl, rfl, rfl, rfl, b, hb, step_presentWord ?_⟩
  rw [encodedOperationDecodesToItself i hwf, hb]

/-- Settles O8: every bus operation answers, and the edge is a function. -/
theorem everyStepAnswersANextState : Obligations.EveryStepAnswersANextState :=
  fun s => ⟨after s, step_after s⟩

end Sys2Proof.Proofs
end

section
/-! SUPPORT. Why a poll ends (42_handshake.md R162, R321): each edge of a running poll is one count of
`pollTicks`, which stays below the longest poll; and what the host's reads of STATUS therefore see
(30_encoding.md R89, 45_host_registers.md R259). -/

namespace Sys2Proof.Proofs

open Sys2Proof Sys2Proof.Machine Sys2Proof.Laws

/-! ### The count within a byte (R128) -/

/-- While a byte is exchanged the timer is within its half-period (R123). -/
theorem timer_of_exchanging {s : State} (ht : Timer s) (hx : exchanging s) :
    1 ≤ s.tmr.toNat ∧ s.tmr.toNat ≤ s.halfPeriod.toNat := by
  obtain ⟨hbusy, hretry⟩ := exchanging_busy hx
  obtain ⟨-, hpos, hle⟩ := ht hbusy
  rw [if_neg hretry] at hle
  exact ⟨hpos, hle⟩

theorem byteTicks_beginByte {c : Byte} {p b : State} (h : b.halfPeriod = p.halfPeriod) :
    byteTicks (beginByte c p b) = 0 := by
  simp [byteTicks, hTicks, h]

theorem byteTicks_count {s : State} (ht : Timer s) (hx : exchanging s) (h1 : 1 < s.tmr.toNat) :
    byteTicks { s with tmr := s.tmr - 1 } = byteTicks s + 1 := by
  obtain ⟨-, hle⟩ := timer_of_exchanging ht hx
  simp only [byteTicks, hTicks, tmr_pred h1]
  omega

theorem byteTicks_loEnd {s : State} (ht : Timer s) (hx : exchanging s) (h1 : s.tmr.toNat ≤ 1)
    (hp : s.ph = .lo) : byteTicks (loEnd s s) = byteTicks s + 1 := by
  obtain ⟨hpos, hle⟩ := timer_of_exchanging ht hx
  simp only [loEnd_eq, byteTicks, hTicks, hp, halfTicks_toNat, if_true, reduceCtorEq, if_false]
  omega

theorem byteTicks_hiEnd {s : State} (ht : Timer s) (hx : exchanging s) (h1 : s.tmr.toNat ≤ 1)
    (hp : s.ph = .hi) (hb : s.bidx.toNat < 7) : byteTicks (hiEnd s s) = byteTicks s + 1 := by
  obtain ⟨hpos, hle⟩ := timer_of_exchanging ht hx
  have hnext : (s.bidx + 1).toNat = s.bidx.toNat + 1 := by bv_omega
  simp only [hiEnd_eq, byteTicks, hTicks, hp, hnext, Nat.mul_add, halfTicks_toNat, if_true,
    reduceCtorEq, if_false]
  omega

/-- The last cycle of a byte is its `16H`-th. -/
theorem byteTicks_at_end {s : State} (ht : Timer s) (hx : exchanging s) (h1 : s.tmr.toNat ≤ 1)
    (hp : s.ph = .hi) (hb : s.bidx.toNat = 7) : byteTicks s + 1 = 16 * hTicks s := by
  obtain ⟨hpos, hle⟩ := timer_of_exchanging ht hx
  simp only [byteTicks, hTicks, hp, hb, if_true]
  omega

theorem byteTicks_lt {s : State} (ht : Timer s) (hx : exchanging s) :
    byteTicks s < 16 * hTicks s := by
  obtain ⟨hpos, hle⟩ := timer_of_exchanging ht hx
  have hbit := s.bidx.isLt
  have hmul : 2 * hTicks s * s.bidx.toNat ≤ 2 * hTicks s * 7 := Nat.mul_le_mul_left _ (by omega)
  simp only [byteTicks, hTicks] at *
  split <;> omega

/-! ### The count within an attempt (R325) -/

/-- The count of the attempt at which the byte exchange of `s` began. -/
def byteStart (s : State) : Nat :=
  match s.st with
  | .start => hTicks s
  | .poll => 17 * hTicks s
  | .marker => 33 * hTicks s
  | .frame => 49 * hTicks s + 16 * hTicks s * s.fidx.val
  | .idle | .attn | .retry => 0

theorem attemptTicks_of_exchanging {s : State} (hx : exchanging s) :
    attemptTicks s = byteStart s + byteTicks s := by
  rcases hx with h | h | h | h <;> simp only [attemptTicks, byteStart, h]

/-- The ninth byte of an attempt ends after `145H` (R162). -/
theorem byteStart_le (s : State) : byteStart s ≤ 129 * hTicks s := by
  have hmul : 16 * hTicks s * s.fidx.val ≤ 16 * hTicks s * 5 := Nat.mul_le_mul_left _ (by omega)
  unfold byteStart
  split <;> omega

/-- Inside a byte the attempt counts as the byte does. -/
theorem attemptTicks_inside_byte {s f : State} (hx : exchanging s) (hst : f.st = s.st)
    (hfi : f.fidx = s.fidx) (hH : f.halfPeriod = s.halfPeriod)
    (hstep : byteTicks f = byteTicks s + 1) : attemptTicks f = attemptTicks s + 1 := by
  have hxf : exchanging f := by simpa only [exchanging, hst] using hx
  have hstart : byteStart f = byteStart s := by simp only [byteStart, hTicks, hst, hfi, hH]
  rw [attemptTicks_of_exchanging hx, attemptTicks_of_exchanging hxf, hstart, hstep, Nat.add_assoc]

/-- The end of a byte is the beginning of the next. -/
theorem attemptTicks_beginByte {c : Byte} {s b : State} (hx : exchanging s) (hxb : exchanging b)
    (hH : b.halfPeriod = s.halfPeriod) (hend : byteTicks s + 1 = 16 * hTicks s)
    (hstart : byteStart b = byteStart s + 16 * hTicks s) :
    attemptTicks (beginByte c s b) = attemptTicks s + 1 := by
  have hxn : exchanging (beginByte c s b) := hxb
  have hsame : byteStart (beginByte c s b) = byteStart b := rfl
  rw [attemptTicks_of_exchanging hxn, attemptTicks_of_exchanging hx, byteTicks_beginByte hH, hsame]
  omega

theorem attemptTicks_count {s : State} (ht : Timer s) (hs : s.st ≠ .idle)
    (h1 : 1 < s.tmr.toNat) : attemptTicks { s with tmr := s.tmr - 1 } = attemptTicks s + 1 := by
  by_cases hx : exchanging s
  · exact attemptTicks_inside_byte hx rfl rfl rfl (byteTicks_count ht hx h1)
  · obtain ⟨-, -, hle⟩ := ht hs
    cases hst : s.st with
    | idle => exact absurd hst hs
    | start | poll | marker | frame => simp [exchanging, hst] at hx
    | attn | retry =>
      simp only [hst, attemptTicks, hTicks, sTicks, tmr_pred h1, reduceCtorEq, if_false,
        if_true] at *
      omega

/-- What a step of the state machine does to the count of the attempt: one more, or the attempt has taken
all its cycles and the next begins (R160, R162). -/
theorem fsmEffect_attemptTicks {s f : State} (h : FsmEffect s s f) (ht : Timer s)
    (hs : s.st ≠ .idle) (hf : f.st ≠ .idle) :
    (f.attempts = s.attempts ∧ attemptTicks f = attemptTicks s + 1) ∨
    (s.attempts.toNat ≤ s.retryMax.toNat ∧ f.attempts = s.attempts + 1 ∧
      attemptTicks s + 1 = failedTicks s ∧ attemptTicks f = 0) := by
  obtain ⟨-, hpos, hle⟩ := ht hs
  cases h with
  | idle h => exact absurd h hs
  | frameEnd | giveUp => exact absurd rfl hf
  | count _ h1 => exact .inl ⟨rfl, attemptTicks_count ht hs h1⟩
  | attn h h1 =>
    have hx : exchanging (attnEnd s s) := .inl rfl
    have hbegin : byteTicks (attnEnd s s) = 0 := byteTicks_beginByte rfl
    refine .inl ⟨rfl, ?_⟩
    rw [attemptTicks_of_exchanging hx, hbegin]
    simp only [byteStart, attnEnd_eq, attemptTicks, hTicks, h, reduceCtorEq, if_false] at *
    omega
  | lo hx h1 hp =>
    exact .inl ⟨rfl, attemptTicks_inside_byte hx rfl rfl rfl (byteTicks_loEnd ht hx h1 hp)⟩
  | hi hx h1 hp hb =>
    exact .inl ⟨rfl, attemptTicks_inside_byte hx rfl rfl rfl (byteTicks_hiEnd ht hx h1 hp hb)⟩
  | start h h1 hp hb =>
    have hx : exchanging s := .inl h
    refine .inl ⟨rfl, attemptTicks_beginByte hx (.inr (.inl rfl)) rfl
      (byteTicks_at_end ht hx h1 hp hb) ?_⟩
    simp only [byteStart, hTicks, h]
    omega
  | poll h h1 hp hb =>
    have hx : exchanging s := .inr (.inl h)
    refine .inl ⟨rfl, attemptTicks_beginByte hx (.inr (.inr (.inl rfl))) rfl
      (byteTicks_at_end ht hx h1 hp hb) ?_⟩
    simp only [byteStart, hTicks, h]
    omega
  | matched h h1 hp hb =>
    have hx : exchanging s := .inr (.inr (.inl h))
    refine .inl ⟨rfl, attemptTicks_beginByte hx (.inr (.inr (.inr rfl))) rfl
      (byteTicks_at_end ht hx h1 hp hb) ?_⟩
    simp only [byteStart, hTicks, h, Fin.val_zero]
    omega
  | frameByte h h1 hp hb hfi =>
    have hx : exchanging s := .inr (.inr (.inr h))
    refine .inl ⟨rfl, attemptTicks_beginByte hx hx rfl (byteTicks_at_end ht hx h1 hp hb) ?_⟩
    have hnext : (s.fidx + 1).val = s.fidx.val + 1 := by omega
    simp only [byteStart, hTicks, h, hnext, Nat.mul_add]
    omega
  | mismatch h h1 hp hb =>
    have hx : exchanging s := .inr (.inr (.inl h))
    have hend := byteTicks_at_end ht hx h1 hp hb
    refine .inl ⟨rfl, ?_⟩
    rw [attemptTicks_of_exchanging hx]
    simp only [markerMismatch_eq, byteStart, attemptTicks, hTicks, sTicks, h,
      settleTicks_toNat] at *
    omega
  | again h h1 ha =>
    refine .inr ⟨ha, rfl, ?_, by simp [attemptTicks, hTicks]⟩
    simp only [attemptTicks, failedTicks, sTicks, h, if_true] at *
    omega

theorem attemptTicks_lt {s : State} (ht : Timer s) (hs : s.st ≠ .idle) :
    attemptTicks s < 145 * hTicks s ∨ attemptTicks s < failedTicks s := by
  by_cases hx : exchanging s
  · have hbyte := byteTicks_lt ht hx
    have hstart := byteStart_le s
    rw [attemptTicks_of_exchanging hx]
    omega
  · obtain ⟨-, hpos, hle⟩ := ht hs
    cases hst : s.st with
    | idle => exact absurd hst hs
    | start | poll | marker | frame => simp [exchanging, hst] at hx
    | attn | retry =>
      simp only [hst, attemptTicks, failedTicks, hTicks, sTicks, reduceCtorEq, if_false, if_true] at *
      omega

/-! ### The count of a poll (R162, R321) -/

/-- A running poll is short of the longest one. -/
theorem pollTicks_lt_longestPoll {s : State} (hi : Inv s) (hs : s.st ≠ .idle) :
    pollTicks s < longestPoll := by
  obtain ⟨_, _, _, ht, ⟨hmax, _⟩, _, _⟩ := hi
  have hlt := attemptTicks_lt ht hs
  have hH := s.halfPeriod.isLt
  have hS := s.settle.isLt
  have hmul : (s.attempts.toNat - 1) * failedTicks s ≤ 255 * failedTicks s :=
    Nat.mul_le_mul_right _ (by omega)
  simp only [pollTicks, longestPoll, failedTicks, hTicks, sTicks] at *
  omega

theorem fsmEffect_pollTicks {s f : State} (h : FsmEffect s s f) (hi : Inv s) (hs : s.st ≠ .idle)
    (hf : f.st ≠ .idle) : pollTicks f = pollTicks s + 1 := by
  obtain ⟨_, _, _, ht, ⟨_, hatt⟩, _, _⟩ := hi
  obtain ⟨hone, -⟩ := hatt hs
  obtain ⟨hH, hS, -, -⟩ := fsmEffect_config h
  have hfailed : failedTicks f = failedTicks s := by simp only [failedTicks, hTicks, sTicks, hH, hS]
  unfold pollTicks
  rcases fsmEffect_attemptTicks h ht hs hf with ⟨ha, hstep⟩ | ⟨hle, ha, hend, hzero⟩
  · rw [ha, hfailed, hstep, Nat.add_assoc]
  · have hr := s.retryMax.isLt
    obtain ⟨k, hk⟩ : ∃ k, s.attempts.toNat = k + 1 := ⟨_, (Nat.sub_add_cancel hone).symm⟩
    have hnext : (s.attempts + 1).toNat = k + 2 := by bv_omega
    rw [ha, hfailed, hzero, hnext, hk, Nat.add_assoc, hend]
    exact Nat.succ_mul k _

/-- Each edge of a running poll but its last is one count, whatever the host presents. -/
theorem after_pollTicks {s : State} (hi : Inv s) (hs : s.st ≠ .idle) (hr : (ports s).rstN = true)
    (hf : (after s).st ≠ .idle) : pollTicks (after s) = pollTicks s + 1 := by
  have hout : after s = withOuter (fsmStep s s) (after s) := after_busy hs hr
  have hst : (after s).st = (fsmStep s s).st := by rw [hout]; rfl
  have hcount : pollTicks (after s) = pollTicks (fsmStep s s) := by rw [hout]; rfl
  rw [hcount]
  exact fsmEffect_pollTicks (fsm_effect s s) hi hs (hst ▸ hf)

end Sys2Proof.Proofs
end

section
/-! SUPPORT. The host's loop over STATUS (30_encoding.md R89) and `poll()` (45_host_registers.md R259). -/

namespace Sys2Proof.Proofs

open Sys2Proof Sys2Proof.Machine Sys2Proof.Laws

/-! ### A poll leaves its outcome (R272) -/

/-- An idle block has recorded a result: that of its last poll. -/
def Answered (s : State) : Prop := s.st = .idle → s.result ≠ .noResult

/-- Of a running poll, only an edge that records a result leaves the block idle. -/
theorem fsmEffect_answered {s f : State} (h : FsmEffect s s f) (hs : s.st ≠ .idle) : Answered f := by
  cases h with
  | idle h => exact absurd h hs
  | count | lo | hi => exact fun hf => absurd hf hs
  | frameByte h => exact fun hf => absurd hf hs
  | frameEnd | giveUp => exact nofun
  | attn | start | poll | matched | mismatch | again => exact nofun

/-- The bus leaves an idle block with its result, or with INVALID_CONFIGURATION, or starts a poll. -/
theorem busEffect_answered {s b : State} (h : BusEffect s b) (hs : s.st = .idle)
    (ha : Answered s) : Answered b := by
  cases h with
  | cfgFail | accept => exact nofun
  | read | nothing | dropped | status | config => exact fun _ => ha hs

theorem after_busy_answered {s : State} (hs : s.st ≠ .idle) (hr : (ports s).rstN = true) :
    Answered (after s) := by
  have hout : after s = withOuter (fsmStep s s) (after s) := after_busy hs hr
  have hstep : Answered (fsmStep s s) := fsmEffect_answered (fsm_effect s s) hs
  rw [hout]
  exact hstep

theorem after_answered {s : State} (hr : (ports s).rstN = true) (ha : Answered s) :
    Answered (after s) := by
  by_cases hs : s.st = .idle
  · obtain ⟨b, f, hb, hf, he⟩ := after_running hr
    have hbus : Answered b := busEffect_answered hb hs ha
    rw [he, fsmEffect_of_idle hf hs]
    exact hbus
  · exact after_busy_answered hs hr

/-! ### One presented word (R62, R81) -/

theorem inv_presentWord {x : HT41} {s : State} (hi : Inv s) : Inv (presentWord x s) := hi

theorem after_presentWord {x : HT41} {s b : State}
    (h : exec (decode x) (presentWord x s) = .next b) :
    after (presentWord x s) =
      nextCycle (dsyncShift (ports s).dat (presentWord x s) (fsmStep (presentWord x s) b)) :=
  after_of_step (step_presentWord h)

/-- Whatever the block was doing, after a POLL it is busy or holds a result (R231-R233). -/
theorem answered_after_poll (s : State) : Answered (after (presentWord asmPoll s)) := by
  by_cases hs : s.st = .idle
  · have hpoll : decode asmPoll = .poll 0 0 := by decide
    have hexec : exec (decode asmPoll) (presentWord asmPoll s) =
        .next (driveNone (pollCommand (presentWord asmPoll s))) := by rw [hpoll]; rfl
    have hidle : (presentWord asmPoll s).st = .idle := hs
    rw [after_presentWord hexec, fsmStep, if_pos hidle, pollCommand, if_neg (not_not.2 hidle)]
    split <;> exact nofun
  · exact after_busy_answered hs rfl

/-! ### One read (R61) -/

/-- The state after a cycle in which the host reads the register `r`. -/
def readCycle (r : RegName) (s : State) : State := after (presentWord (asmRd r) s)

/-- The word slot of a register operand (R60, R64). -/
def regSlot (r : RegName) : SlotIdx := r.offset.extractLsb' 2 6

theorem exec_asmRd (r : RegName) (s : State) :
    exec (decode (asmRd r)) s = .next (driveRead (readWord (regSlot r) s) s) := by
  rw [asmRd, BusTxn.word, decode_htWord_read, exec_decodeRead]
  rfl

theorem busCycle_asmRd (r : RegName) (s : State) :
    busCycle (asmRd r) s = some (readCycle r s, some (readWord (regSlot r) s)) := by
  have hexec := exec_asmRd r (presentWord (asmRd r) s)
  obtain ⟨_, _, _, hrdata⟩ := (fsm_effect (presentWord (asmRd r) s)
    (driveRead (readWord (regSlot r) (presentWord (asmRd r) s)) (presentWord (asmRd r) s))).record
  rw [busCycle_eq, readCycle, after_presentWord hexec]
  exact congrArg (fun v => some (_, v)) hrdata

theorem inv_readCycle {r : RegName} {s : State} (hi : Inv s) : Inv (readCycle r s) :=
  after_keeps_inv (inv_presentWord hi)

theorem answered_readCycle {r : RegName} {s : State} (ha : Answered s) : Answered (readCycle r s) :=
  after_answered rfl ha

/-- A read of an idle block leaves its registers as they were. -/
theorem readCycle_of_idle {r : RegName} {s : State} (hs : s.st = .idle) :
    readCycle r s = withOuter s (readCycle r s) := by
  have hidle : (presentWord (asmRd r) s).st = .idle := hs
  rw [readCycle, after_presentWord (exec_asmRd r _), fsmStep, if_pos hidle]
  rfl

theorem readCycle_pollTicks {r : RegName} {s : State} (hi : Inv s) (hs : s.st ≠ .idle)
    (hf : (readCycle r s).st ≠ .idle) : pollTicks (readCycle r s) = pollTicks s + 1 :=
  after_pollTicks (inv_presentWord hi) hs rfl hf

/-! ### WAITIDLE (R89) -/

/-- Bit 0 of STATUS is BUSY (R24, R31). -/
theorem statusWord_busy (s : State) : (statusWord s).getLsbD 0 = busy s := by
  have h : (statusWord s).toNat % 2 = (busy s).toNat := by
    rw [statusWord_toNat, busy_toNat]
    split <;> omega
  rw [BitVec.getLsbD, Nat.testBit_zero, h]
  cases busy s <;> rfl

theorem waitIdle_succ (n : Nat) (s : State) : waitIdle (n + 1) s =
    if busy s then waitIdle n (readCycle .status s)
    else some (readCycle .status s, statusWord s) := by
  have hread : readWord (regSlot .status) s = statusWord s := rfl
  rw [waitIdle, busCycle_asmRd, hread]
  simp only [statusWord_busy]

/-- WAITIDLE reads STATUS until the block is idle, which takes no more reads than the longest poll has
counts left: `k` reads of a busy block and one of an idle one. -/
theorem waitIdle_reads (n : Nat) {s : State} (hi : Inv s)
    (hn : s.st ≠ .idle → longestPoll ≤ pollTicks s + n) :
    ∃ k, ((readCycle .status)^[k] s).st = .idle ∧ waitIdle (n + 1) s =
      some (readCycle .status ((readCycle .status)^[k] s), statusWord ((readCycle .status)^[k] s)) := by
  induction n generalizing s with
  | zero =>
    have hs : s.st = .idle := by
      by_contra hs
      exact absurd (pollTicks_lt_longestPoll hi hs) (Nat.not_lt.2 (hn hs))
    exact ⟨0, hs, by simp [waitIdle_succ, busy, hs]⟩
  | succ n ih =>
    by_cases hs : s.st = .idle
    · exact ⟨0, hs, by simp [waitIdle_succ, busy, hs]⟩
    · obtain ⟨k, hk, hw⟩ := ih (inv_readCycle (r := .status) hi) fun hf => by
        have hcount := readCycle_pollTicks hi hs hf
        have hbound := hn hs
        omega
      exact ⟨k + 1, hk, by simpa [waitIdle_succ (n + 1), busy, hs] using hw⟩

/-- The bound of R321 suffices for WAITIDLE, and its last read sees an idle block. -/
theorem waitIdle_ends {s : State} (hi : Inv s) : ∃ u, Inv u ∧ u.st = .idle ∧
    (Answered s → Answered u) ∧
    waitIdle (longestPoll + 1) s = some (readCycle .status u, statusWord u) := by
  obtain ⟨k, hk, hw⟩ := waitIdle_reads longestPoll hi fun _ => Nat.le_add_left _ _
  exact ⟨_, Function.Iterate.rec Machine.Inv hi (fun _ => inv_readCycle) k, hk,
    fun ha => Function.Iterate.rec Answered ha (fun _ => answered_readCycle) k, hw⟩

/-! ### `poll()` (R259) -/

theorem pollWait_eq {fuel : Nat} {s t : State} {v : Word}
    (h : waitIdle fuel (after (presentWord asmPoll s)) = some (t, v)) :
    pollWait fuel s = some (readCycle .status t, statusWord t) := by
  have hread : readWord (regSlot .status) t = statusWord t := rfl
  simp only [pollWait, busCycle_eq asmPoll, busCycle_asmRd, hread, Option.bind_eq_bind,
    Option.bind_some, h]
  rfl

theorem readState_eq (s : State) : readState s =
    some (readCycle .axes (readCycle .buttons s), buttonsWord s,
      axesWord (readCycle .buttons s)) := by
  simp only [readState, busCycle_asmRd, Option.bind_eq_bind, Option.bind_some]
  rfl

/-- A change that leaves the registers, made twice. -/
theorem withOuter_trans {s t u : State} (h : t = withOuter s t) (h' : u = withOuter t u) :
    u = withOuter s u :=
  calc u = withOuter t u := h'
    _ = withOuter (withOuter s t) u := congrArg (fun v => withOuter v u) h
    _ = withOuter s u := withOuter_withOuter s t u

/-- READSTATE of an idle block returns the snapshot and leaves it (R239, R240). -/
theorem readState_of_idle {s : State} (hs : s.st = .idle) : ∃ u, u = withOuter s u ∧
    readState s = some (u, buttonsWord u, axesWord u) := by
  have hb := readCycle_of_idle (r := .buttons) hs
  have hst : (readCycle .buttons s).st = .idle := by rw [hb]; exact hs
  have ha := readCycle_of_idle (r := .axes) hst
  have hu := withOuter_trans hb ha
  have hbuttons : buttonsWord s = buttonsWord (readCycle .axes (readCycle .buttons s)) := by
    rw [hu]; rfl
  have haxes : axesWord (readCycle .buttons s) =
      axesWord (readCycle .axes (readCycle .buttons s)) := by
    rw [ha]; rfl
  exact ⟨_, hu, by rw [readState_eq, hbuttons, haxes]⟩

/-- POLLWAIT ends with the block idle, and its STATUS word holds the outcome that the block has
recorded, which is one of the three of R273-R275. -/
theorem pollWait_ends {s : State} (hi : Inv s) : ∃ t status,
    pollWait (longestPoll + 1) s = some (t, status) ∧ t.st = .idle ∧
    resultField status = t.result.code.toNat ∧
    (t.result = .ok ∨ t.result = .handshakeMismatch ∨ t.result = .invalidConfiguration) := by
  obtain ⟨u, hiu, hu, hau, hw⟩ := waitIdle_ends (after_keeps_inv (inv_presentWord hi))
  have hanswer := hau (answered_after_poll s) hu
  obtain ⟨_, _, _, _, _, ⟨hfault, _⟩, _⟩ := hiu
  have h1 := readCycle_of_idle (r := .status) hu
  have hst : (readCycle .status u).st = .idle := by rw [h1]; exact hu
  have h2 := readCycle_of_idle (r := .status) hst
  have hsame := withOuter_trans h1 h2
  have hresult : (readCycle .status (readCycle .status u)).result = u.result := by
    rw [hsame]; rfl
  have hresult1 : (readCycle .status u).result = u.result := by rw [h1]; rfl
  refine ⟨_, _, pollWait_eq hw, by rw [hsame]; exact hu, ?code, ?outcome⟩
  case code =>
    rw [hresult, ← hresult1]
    exact (statusWord_fields _).1
  case outcome =>
    rw [hresult]
    cases hr : u.result with
    | noResult => exact absurd hr hanswer
    | lineFault => exact absurd hr hfault
    | ok | handshakeMismatch | invalidConfiguration => simp

section

variable {names : Vector AxisName 4} {fuel : Nat} {s t : State} {status : Word}

theorem hostPoll_ok {u : State} {b a : Word} (h : pollWait fuel s = some (t, status))
    (hc : resultField status = 1) (hr : readState t = some (u, b, a)) :
    hostPoll names fuel s = some (u, .ok (controllerState names b a)) := by
  simp only [hostPoll, h, hr, pollValue, hc, Option.bind_eq_bind, Option.bind_some, if_true]
  rfl

theorem hostPoll_error {r : Except ProtocolError ControllerState}
    (h : pollWait fuel s = some (t, status)) (hc : resultField status ≠ 1)
    (hv : pollValue names status 0 0 = some r) : hostPoll names fuel s = some (t, r) := by
  simp only [hostPoll, h, hv, hc, Option.bind_eq_bind, Option.bind_some, if_false]
  rfl

end

/-- `poll()` answers what the block has recorded, and with OK the snapshot it holds (R259, R260). -/
theorem hostPoll_answers (names : Vector AxisName 4) {s : State} (hi : Inv s) :
    ∃ t r, hostPoll names (longestPoll + 1) s = some (t, r) ∧ t.st = .idle ∧
      (t.result = .ok ∧ r = .ok (controllerState names (buttonsWord t) (axesWord t)) ∨
        t.result = .handshakeMismatch ∧ r = .error .handshakeMismatch ∨
        t.result = .invalidConfiguration ∧ r = .error .invalidConfiguration) := by
  obtain ⟨t, status, hp, hidle, hcode, hok | hmm | hic⟩ := pollWait_ends hi
  · obtain ⟨u, hu, hread⟩ := readState_of_idle hidle
    rw [hok] at hcode
    exact ⟨u, _, hostPoll_ok hp hcode hread, by rw [hu]; exact hidle,
      .inl ⟨by rw [hu]; exact hok, rfl⟩⟩
  · rw [hmm] at hcode
    have hcode : resultField status = 2 := hcode
    exact ⟨t, _, hostPoll_error hp (by omega) (by simp only [pollValue, hcode]), hidle,
      .inr (.inl ⟨hmm, rfl⟩)⟩
  · rw [hic] at hcode
    have hcode : resultField status = 3 := hcode
    exact ⟨t, _, hostPoll_error hp (by omega) (by simp only [pollValue, hcode]), hidle,
      .inr (.inr ⟨hic, rfl⟩)⟩

/-- Settles O48: each read of a busy block is one count of the poll, so the bound of the longest poll
suffices, and an idle block keeps its result and snapshot under the reads that follow. -/
theorem waitIdleAlwaysEnds : Obligations.WaitIdleAlwaysEnds := by
  refine ⟨fun s hi => ?_, fun names s hi => hostPoll_answers names hi⟩
  obtain ⟨u, _, hu, _, hw⟩ := waitIdle_ends hi
  refine ⟨_, _, hw, (statusWord_busy u).trans (by simp [busy, hu]), ?_⟩
  rw [readCycle_of_idle hu]
  exact hu

end Sys2Proof.Proofs
end

section
/-! SUPPORT. The DAT synchroniser as a delay line (40_line_driver.md R112, 10_state.md R47): a level
that enters its first stage moves by one stage at each edge, so its last stage gives the pin's level
SYNC_STAGES edges before. -/

namespace Sys2Proof.Proofs

open Sys2Proof Sys2Proof.Machine Sys2Proof.Laws

/-! ### The chain (R47) -/

@[simp] theorem stages_length (c : SyncChain) : c.stages.length = c.depth := rfl

theorem stages_shift (pin : Bool) (c : SyncChain) :
    (c.shift pin).stages = (pin :: c.stages).dropLast := rfl

@[simp] theorem depth_shift (pin : Bool) (c : SyncChain) : (c.shift pin).depth = c.depth := by
  rw [← stages_length, stages_shift]
  simp

@[simp] theorem depth_idle (c : SyncChain) : c.idle.depth = c.depth := by
  simp [SyncChain.idle, SyncChain.depth]

/-- A shift puts the pin's level into the first stage. -/
theorem stages_shift_zero (pin : Bool) (c : SyncChain) : (c.shift pin).stages[0]? = some pin := rfl

/-- A shift moves the level of each stage but the last into the next one. -/
theorem stages_shift_succ (pin : Bool) {c : SyncChain} {i : Nat} (hi : i + 1 < c.depth) :
    (c.shift pin).stages[i + 1]? = c.stages[i]? := by
  rw [stages_shift, List.getElem?_dropLast, List.length_cons, stages_length,
    if_pos (by omega), List.getElem?_cons_succ]

theorem out_eq_last_stage (c : SyncChain) : c.stages[c.depth - 1]? = some c.out := by
  rw [← stages_length, ← List.getLast?_eq_getElem?, SyncChain.out, List.getLastD_eq_getLast?]
  exact List.getLast?_cons

/-! ### The chain along a run (R112) -/

theorem after_dsync {s : State} (h : (ports s).rstN = true) :
    (after s).dsync = s.dsync.shift (ports s).dat := by
  obtain ⟨b, f, _, _, he⟩ := after_running h
  rw [he]
  rfl

/-- No edge changes the depth of the synchroniser, a reset's neither (log 6). -/
theorem after_depth (s : State) : (after s).dsync.depth = s.dsync.depth := by
  obtain ⟨b, hb, ⟨hr, _⟩ | ⟨_, he⟩⟩ := after_cases s
  · rw [after_dsync hr, depth_shift]
  · obtain ⟨_, _, hdsync⟩ := hb.record
    rw [he, ← hdsync]
    exact depth_idle b.dsync

theorem runN_depth (n : Nat) (s : State) : (runN n s).dsync.depth = s.dsync.depth := by
  induction n with
  | zero => rfl
  | succ n ih => rw [runN_succ_after, after_depth, ih]

/-- Each edge of a run without reset takes the pin's level into the chain. -/
theorem runN_succ_dsync {n : Nat} {s : State} (hr : noReset (n + 1) s) :
    (runN (n + 1) s).dsync = (runN n s).dsync.shift (pinAt s n) := by
  rw [runN_succ_after, after_dsync (noReset_ports hr (Nat.lt_succ_self n)), ports_runN_dat]

/-- Edge `e` takes the pin's level into the first stage; `i` edges later that level is in stage `i`. -/
theorem stage_holds_pin {s : State} {e i : Nat} (hi : i < s.dsync.depth)
    (hr : noReset (e + i + 1) s) :
    (runN (e + i + 1) s).dsync.stages[i]? = some (pinAt s e) := by
  rw [runN_succ_dsync hr]
  induction i with
  | zero => exact stages_shift_zero _ _
  | succ i ih =>
    have hprev : noReset (e + i + 1) s := noReset_mono hr (Nat.le_succ _)
    have hdepth : i + 1 < (runN (e + i + 1) s).dsync.depth := by rwa [runN_depth]
    rw [← Nat.add_assoc, stages_shift_succ _ hdepth, runN_succ_dsync hprev]
    exact ih (Nat.lt_of_succ_lt hi) hprev

/-- Settles O49: the last stage is stage SYNC_STAGES - 1, so it holds the level that entered the chain
SYNC_STAGES edges before. -/
theorem lineGetReturnsThePinSyncStagesAgo : Obligations.LineGetReturnsThePinSyncStagesAgo := by
  intro s e hr
  obtain ⟨i, hi⟩ : ∃ i, s.dsync.depth = i + 1 := ⟨_, rfl⟩
  rw [hi] at hr ⊢
  have hlast : (runN (e + i + 1) s).dsync.depth - 1 = i := by rw [runN_depth, hi]; rfl
  have hout := out_eq_last_stage (runN (e + i + 1) s).dsync
  rw [hlast, stage_holds_pin (by omega) hr] at hout
  exact (Option.some.inj hout).symm

end Sys2Proof.Proofs
end

section
/-! SUPPORT. The bit-level transceiver (41_transceiver.md): single edges of the state machine with no
transaction in the cycle, the command line against the clock, and a whole byte exchange as sixteen
half-bit phases under any host traffic. -/

namespace Sys2Proof.Proofs

open Sys2Proof Sys2Proof.Machine Sys2Proof.Laws

/-! ### The state machine's step, by the phase it ends (R123, R125, R126) -/

theorem fsmStep_count {s : State} (b : State) (hs : s.st ≠ .idle) (ht : 1 < s.tmr.toNat) :
    fsmStep s b = { b with tmr := s.tmr - 1 } := by
  rw [fsmStep, if_neg hs, if_pos ht]

theorem fsmStep_end {s : State} (b : State) (hs : s.st ≠ .idle) (ht : s.tmr = 1) :
    fsmStep s b = phaseEnd s b := by
  rw [fsmStep, if_neg hs, if_neg (by simp [ht])]

theorem phaseEnd_exchanging {s : State} (b : State) (hx : exchanging s) :
    phaseEnd s b = exchangeEnd s b := by
  rcases hx with h | h | h | h <;> simp only [phaseEnd, h]

theorem phaseEnd_lo {s : State} (b : State) (hx : exchanging s) (hp : s.ph = .lo) :
    phaseEnd s b = loEnd s b := by
  simp only [phaseEnd_exchanging b hx, exchangeEnd, hp]

theorem phaseEnd_hi {s : State} (b : State) (hx : exchanging s) (hp : s.ph = .hi)
    (hb : s.bidx.toNat < 7) : phaseEnd s b = hiEnd s b := by
  simp only [phaseEnd_exchanging b hx, exchangeEnd, hp, if_pos hb]

theorem bidx_succ_toNat {i : BitVec 3} (h : i.toNat < 7) : (i + 1).toNat = i.toNat + 1 := by
  bv_omega

/-! ### Edges with no transaction (R142) -/

theorem step_of_quiet {s : State} (hq : quiet s) : step s =
    .next (nextCycle (dsyncShift (ports s).dat s (fsmStep s (driveNone s)))) := by
  obtain ⟨hr, hb⟩ := hq
  have hf : fetch s = none := by rw [fetch, hb]; rfl
  simp only [step, hf, noTransaction, clockEdge, hr, if_true]

/-- A quiet edge is the state machine's step and the synchroniser's shift. -/
theorem stepsTo_of_fsmStep {s t : State} (hq : quiet s)
    (h : dsyncShift (ports s).dat s (fsmStep s (driveNone s)) = driveNone t) : stepsTo s t := by
  refine ⟨_, step_of_quiet hq, ?_⟩
  rw [h]
  rfl

/-- Settles O22: the state machine's step only counts the phase down. -/
theorem runningPhaseOnlyCountsDown : Obligations.RunningPhaseOnlyCountsDown := by
  intro s hq hs ht
  refine ⟨s.tmr - 1, tmr_pred ht, stepsTo_of_fsmStep hq ?_⟩
  rw [fsmStep_count _ hs ht]
  rfl

/-- Settles O24: the state machine's step is `loEnd`, and `setBit` writes the one bit. -/
theorem lowPhaseEndsInASample : Obligations.LowPhaseEndsInASample := by
  intro s hq hx hp ht
  obtain ⟨hbusy, -⟩ := exchanging_busy hx
  refine ⟨setBit s.rx s.bidx (lineGet s), setBit_getLsbD _ _ _, stepsTo_of_fsmStep hq ?_⟩
  rw [fsmStep_end _ hbusy ht, phaseEnd_lo _ hx hp, loEnd_eq]
  rfl

/-- Settles O25: the state machine's step is `hiEnd`. -/
theorem highPhaseEndsInTheNextBit : Obligations.HighPhaseEndsInTheNextBit := by
  intro s hq hx hp hb ht
  obtain ⟨hbusy, -⟩ := exchanging_busy hx
  refine ⟨s.bidx + 1, bidx_succ_toNat hb, stepsTo_of_fsmStep hq ?_⟩
  rw [fsmStep_end _ hbusy ht, phaseEnd_hi _ hx hp hb, hiEnd_eq]
  rfl

/-! ### The command line and the clock (R131) -/

theorem busEffect_cmdQ {s b : State} (h : BusEffect s b) : b.cmdQ = s.cmdQ := by
  cases h <;> rfl

/-- The state machine writes the command line only where it lowers the clock, and never in a LO half. -/
theorem fsmEffect_cmdQ {s b f : State} (h : FsmEffect s b f) :
    f.cmdQ = b.cmdQ ∨ (f.clkQ = false ∧ ¬ (exchanging s ∧ s.ph = .lo)) := by
  cases h with
  | idle | count | lo | mismatch | frameEnd | again | giveUp => exact .inl rfl
  | attn hs => exact .inr ⟨rfl, fun ⟨hx, _⟩ => by simp [exchanging, hs] at hx⟩
  | hi _ _ hp | start _ _ hp | poll _ _ hp | matched _ _ hp | frameByte _ _ hp =>
    exact .inr ⟨rfl, fun ⟨_, hlo⟩ => by simp [hp] at hlo⟩

/-- Settles O45: the state machine moves the command line only outside the LO halves, where the
invariant has the clock high, and lowers the clock with it. -/
theorem commandLineChangesOnlyWithAFallingClock :
    Obligations.CommandLineChangesOnlyWithAFallingClock := by
  intro s t hi hr h hne
  obtain ⟨_, hclk, _⟩ := hi
  obtain ⟨b, f, hb, hf, he⟩ := after_running hr
  rw [after_of_step h] at he
  subst he
  rcases fsmEffect_cmdQ hf with hsame | ⟨hlow, hnlo⟩
  · exact absurd (hsame.trans (busEffect_cmdQ hb)) hne
  · exact ⟨by simpa using mt hclk.1 hnlo, hlow⟩

/-! ### Half-bit phases of a byte exchange (R128)

In the exchange of the byte begun at `s`, the LO half of bit `k` begins at edge `2kH` and its HI half
at `2kH + H`. -/

/-- `u` is in the byte exchange that `s` is in: between them only the timer, the phase, the bit index, the
received bits, CMD, CLK and what the host, the synchroniser and the environment move may differ. -/
def SameByte (s u : State) : Prop :=
  u = withOuter
    { s with tmr := u.tmr, ph := u.ph, bidx := u.bidx, rx := u.rx, cmdQ := u.cmdQ, clkQ := u.clkQ } u

theorem SameByte.trans {s u v : State} (hu : SameByte s u) (hv : SameByte u v) : SameByte s v := by
  unfold SameByte at *
  rw [hu] at hv
  exact hv

theorem SameByte.fields {s u : State} (h : SameByte s u) :
    u.st = s.st ∧ u.fidx = s.fidx ∧ u.attempts = s.attempts ∧ u.tx = s.tx ∧
      u.halfPeriod = s.halfPeriod := by
  rw [h]
  exact ⟨rfl, rfl, rfl, rfl, rfl⟩

theorem SameByte.keeps_exchanging {s u : State} (h : SameByte s u) (hx : exchanging s) :
    exchanging u := by
  obtain ⟨hst, _⟩ := h.fields
  simpa only [exchanging, hst] using hx

theorem SameByte.hTicks_eq {s u : State} (h : SameByte s u) : hTicks u = hTicks s := by
  obtain ⟨_, _, _, _, hH⟩ := h.fields
  rw [hTicks, hH]

/-- A bit takes `2H` of the byte's `16H` cycles. -/
theorem bitEnd_le (H : Nat) {k : Nat} (hk : k < 8) : 2 * H * k + 2 * H ≤ 16 * H := by
  have hmul : 2 * H * (k + 1) ≤ 2 * H * 8 := Nat.mul_le_mul_left _ hk
  rw [Nat.mul_succ] at hmul
  omega

/-- The phase `ph` of bit `k` of the byte begun at `s` begins at `u`, with the first `n` bits received:
bit `i` is what `LineGet` gave at the edge `2iH + H`. -/
structure PhaseBegins (s : State) (ph : Phase) (k n : Nat) (u : State) : Prop where
  same : SameByte s u
  phase : u.ph = ph
  bit : u.bidx.toNat = k
  timer : u.tmr.toNat = hTicks s
  samples : ∀ i < n, u.rx.getLsbD i = lineGet (runN (2 * hTicks s * i + hTicks s - 1) s)

/-- The byte's beginning is the LO half of bit 0, nothing received. -/
theorem phaseBegins_zero {s : State} (hp : s.ph = .lo) (hb : s.bidx = 0)
    (ht : s.tmr.toNat = hTicks s) : PhaseBegins s .lo 0 0 (runN (2 * hTicks s * 0) s) where
  same := rfl
  phase := hp
  bit := by simp [hb]
  timer := ht
  samples := fun i hi => absurd hi (Nat.not_lt_zero i)

/-- A phase in a byte exchange runs to its last cycle, and the edge after that takes its end action. -/
theorem PhaseBegins.run {s u : State} {ph : Phase} {k n : Nat} (h : PhaseBegins s ph k n u)
    (hx : exchanging s) (hH : s.halfPeriod ≠ 0) (hr : noReset (hTicks s) u) :
    ∃ v, v = runN (hTicks s - 1) u ∧ v = withOuter { u with tmr := 1 } v ∧
      runN (hTicks s) u = withOuter (phaseEnd v v) (runN (hTicks s) u) := by
  obtain ⟨hbusy, -⟩ := exchanging_busy (h.same.keeps_exchanging hx)
  have hpos : 1 ≤ hTicks s := halfPeriod_pos hH
  rw [← h.timer] at hpos hr ⊢
  exact run_phase hbusy hpos hr

/-- The last cycle of a byte exchange's phase is still in that phase. -/
theorem PhaseBegins.last_cycle {s u v : State} {ph : Phase} {k n : Nat}
    (h : PhaseBegins s ph k n u) (hv : v = withOuter { u with tmr := 1 } v) :
    SameByte s v ∧ v.tmr = 1 ∧ v.ph = ph ∧ v.bidx.toNat = k ∧ v.rx = u.rx := by
  have hsame : SameByte u v := by rw [hv]; rfl
  refine ⟨h.same.trans hsame, ?_⟩
  rw [hv]
  exact ⟨rfl, h.phase, h.bit, rfl⟩

/-- A LO half ends in the sample of its bit, and the HI half begins (R125). -/
theorem PhaseBegins.hi_of_lo {s : State} {k : Nat}
    (h : PhaseBegins s .lo k k (runN (2 * hTicks s * k) s)) (hx : exchanging s)
    (hH : s.halfPeriod ≠ 0) (hk : k < 8) (hr : noReset (16 * hTicks s) s) :
    PhaseBegins s .hi k (k + 1) (runN (2 * hTicks s * k + hTicks s) s) := by
  have hpos : 1 ≤ hTicks s := halfPeriod_pos hH
  have hend := bitEnd_le (hTicks s) hk
  have hr' : noReset (hTicks s) (runN (2 * hTicks s * k) s) := noReset_run (noReset_mono hr (by omega))
  obtain ⟨v, hv, hlast, hrun⟩ := h.run hx hH hr'
  obtain ⟨hsame, -, hph, hbit, hrx⟩ := h.last_cycle hlast
  rw [← runN_add, phaseEnd_lo v (hsame.keeps_exchanging hx) hph, loEnd_eq] at hrun
  rw [← runN_add, ← Nat.add_sub_assoc hpos] at hv
  have hafter : SameByte v (runN (2 * hTicks s * k + hTicks s) s) := by rw [hrun]; rfl
  refine ⟨hsame.trans hafter, ?phase, ?bit, ?timer, ?samples⟩
  case phase => rw [hrun]; rfl
  case bit => rw [hrun]; exact hbit
  case timer => rw [hrun]; exact (halfTicks_toNat v).trans hsame.hTicks_eq
  case samples =>
    intro i hi
    rw [hrun]
    refine (setBit_getLsbD v.rx v.bidx (lineGet v) i (by omega)).trans ?_
    rw [hbit, hrx]
    split
    · next hik => rw [hik, hv]
    · next hik => exact h.samples i (by omega)

/-- A HI half before the last bit ends in the next bit's LO half, that bit on the command line (R126). -/
theorem PhaseBegins.lo_of_hi {s : State} {k : Nat}
    (h : PhaseBegins s .hi k (k + 1) (runN (2 * hTicks s * k + hTicks s) s)) (hx : exchanging s)
    (hH : s.halfPeriod ≠ 0) (hk : k < 7) (hr : noReset (16 * hTicks s) s) :
    PhaseBegins s .lo (k + 1) (k + 1) (runN (2 * hTicks s * (k + 1)) s) ∧
      psxCmd (runN (2 * hTicks s * (k + 1)) s) = s.tx.getLsbD (k + 1) := by
  have hend := bitEnd_le (hTicks s) (Nat.lt_succ_of_lt hk)
  have hedge : 2 * hTicks s * (k + 1) = 2 * hTicks s * k + hTicks s + hTicks s := by ring
  have hr' : noReset (hTicks s) (runN (2 * hTicks s * k + hTicks s) s) :=
    noReset_run (noReset_mono hr (by omega))
  obtain ⟨v, -, hlast, hrun⟩ := h.run hx hH hr'
  obtain ⟨hsame, -, hph, hbit, hrx⟩ := h.last_cycle hlast
  rw [← runN_add, ← hedge, phaseEnd_hi v (hsame.keeps_exchanging hx) hph (hbit ▸ hk),
    hiEnd_eq] at hrun
  have hafter : SameByte v (runN (2 * hTicks s * (k + 1)) s) := by rw [hrun]; rfl
  obtain ⟨_, _, _, htx, _⟩ := hsame.fields
  refine ⟨⟨hsame.trans hafter, ?phase, ?bit, ?timer, ?samples⟩, ?cmd⟩
  case phase => rw [hrun]; rfl
  case bit => rw [hrun]; exact (bidx_succ_toNat (hbit ▸ hk)).trans (congrArg (· + 1) hbit)
  case timer => rw [hrun]; exact (halfTicks_toNat v).trans hsame.hTicks_eq
  case samples =>
    intro i hi
    rw [hrun]
    exact (congrArg (·.getLsbD i) hrx).trans (h.samples i hi)
  case cmd =>
    rw [hrun, ← htx, ← hbit]
    rfl

/-- The HI half of every bit begins, with the bits up to its own received. -/
theorem hi_begins {s : State} (hx : exchanging s) (hp : s.ph = .lo) (hb : s.bidx = 0)
    (hH : s.halfPeriod ≠ 0) (ht : s.tmr.toNat = hTicks s) (hr : noReset (16 * hTicks s) s)
    {k : Nat} (hk : k < 8) :
    PhaseBegins s .hi k (k + 1) (runN (2 * hTicks s * k + hTicks s) s) := by
  induction k with
  | zero => exact (phaseBegins_zero hp hb ht).hi_of_lo hx hH hk hr
  | succ k ih =>
    obtain ⟨hlo, -⟩ := (ih (by omega)).lo_of_hi hx hH (by omega) hr
    exact hlo.hi_of_lo hx hH hk hr

/-- Settles O50: by induction on the bits, each a LO half and a HI half; the last HI half runs to its
last cycle. Each bit of `rx` is written once, so its value at the beginning does not matter. -/
theorem byteExchangeAssemblesItsEightSamples :
    Obligations.ByteExchangeAssemblesItsEightSamples := by
  intro s hx hp hb _ hH ht hr
  have hbits : ∀ k < 8, PhaseBegins s .hi k (k + 1) (runN (2 * hTicks s * k + hTicks s) s) :=
    fun k hk => hi_begins hx hp hb hH ht hr hk
  have hpos : 1 ≤ hTicks s := halfPeriod_pos hH
  have hr7 : noReset (hTicks s) (runN (2 * hTicks s * 7 + hTicks s) s) :=
    noReset_run (noReset_mono hr (by omega))
  obtain ⟨v, hv, hlast, -⟩ := (hbits 7 (by omega)).run hx hH hr7
  obtain ⟨hsame, htmr, hph, hbit, hrx⟩ := (hbits 7 (by omega)).last_cycle hlast
  obtain ⟨hst, hfi, hatt, -, -⟩ := hsame.fields
  have hedge : 2 * hTicks s * 7 + hTicks s + (hTicks s - 1) = 16 * hTicks s - 1 := by omega
  rw [← runN_add, hedge] at hv
  intro t
  have htv : t = v := hv.symm
  refine ⟨htv ▸ hst, htv ▸ hph, htv ▸ BitVec.eq_of_toNat_eq hbit, htv ▸ htmr, htv ▸ hfi,
    htv ▸ hatt, ?samples, ?cmd⟩
  case samples =>
    intro i hi
    rw [htv, hrx]
    exact (hbits 7 (by omega)).samples i hi
  case cmd =>
    intro i hi h1
    obtain ⟨k, rfl⟩ : ∃ k, i = k + 1 := ⟨i - 1, by omega⟩
    exact ((hbits k (by omega)).lo_of_hi hx hH (by omega) hr).2

end Sys2Proof.Proofs
end

section
/-! SUPPORT. The handshake controller, edge by edge (42_handshake.md R142-R160): the step as the bus's
update under the state machine's, the disjoint state of the two, and what the edge does that ends each
phase of an attempt. -/

namespace Sys2Proof.Proofs

open Sys2Proof Sys2Proof.Machine Sys2Proof.Laws

/-! ### The step as an edge (R142, R230) -/

/-- The operation presented runs on the pre-edge state, and the edge follows. -/
theorem step_of_bus {s : State} {t : BusTxn} (h : (ports s).bus = some t) :
    ∃ b, exec (decode t.word) s = .next b ∧ step s = .next (clockEdge s b) := by
  obtain ⟨b, hb, _⟩ := exec_effect (decode t.word) s
  have hf : fetch s = some (decode t.word) := by rw [fetch, h]; rfl
  exact ⟨b, hb, by simp only [step, hf, hb]⟩

theorem step_of_no_bus {s : State} (h : (ports s).bus = none) :
    step s = .next (clockEdge s { s with rdata := none }) := by
  have hf : fetch s = none := by rw [fetch, h]; rfl
  simp only [step, hf, noTransaction]
  rfl

/-- Settles O6: the two forms of a cycle, the two forms of the edge, and the depth of the chain. -/
theorem stepRunsThePresentedOperation : Obligations.StepRunsThePresentedOperation := by
  refine ⟨fun _ _ => step_of_bus, fun _ => step_of_no_bus, ?running, ?reset, ?depth⟩
  case running => exact fun s b hr => if_pos hr
  case reset => exact fun s b hr => if_neg (by simp [hr])
  case depth => exact fun s t h => after_of_step h ▸ after_depth s

/-- Settles O31: in IDLE the state machine leaves what the bus made of the state. -/
theorem idleEdgeChangesOnlyTheSynchroniser : Obligations.IdleEdgeChangesOnlyTheSynchroniser := by
  intro s hq hs
  rw [step_of_quiet hq, fsmStep, if_pos hs]
  rfl

/-! ### The bus and the state machine (R142, R280) -/

/-- The state machine leaves the synchroniser to the edge (R47). -/
theorem fsmEffect_dsync {s b f : State} (h : FsmEffect s b f) : f.dsync = b.dsync := by
  cases h <;> rfl

/-- While a poll runs the state machine writes the same values whatever the bus did. -/
theorem fsmStep_over_bus {s b : State}
    (hb : b = { s with done := b.done, ign := b.ign, rdata := b.rdata }) :
    fsmStep s b =
      { fsmStep s s with done := (fsmStep s b).done, ign := b.ign, rdata := b.rdata } := by
  obtain ⟨hin, hcy, hig, hrd⟩ := (fsm_effect s b).record
  obtain ⟨hin', hcy', -, -⟩ := (fsm_effect s s).record
  have hds := fsmEffect_dsync (fsm_effect s b)
  have hds' := fsmEffect_dsync (fsm_effect s s)
  have hkept : b.dsync = s.dsync ∧ b.inputs = s.inputs ∧ b.cycle = s.cycle := by
    rw [hb]; exact ⟨rfl, rfl, rfl⟩
  obtain ⟨hbd, hbi, hbc⟩ := hkept
  calc fsmStep s b
      = withOuter (withOuter (fsmStep s b) s) (fsmStep s b) := rfl
    _ = withOuter (fsmStep s s) (fsmStep s b) := by rw [fsmStep_outer s b hb]; rfl
    _ = _ := by
      unfold withOuter
      rw [hds, hin, hcy, hig, hrd, hbd, hbi, hbc, ← hds', ← hin', ← hcy']

/-- Settles O34: a busy bus writes only DONE, IGN and the read port, which the state machine's step does
not read. -/
theorem busAndStateMachineWriteDisjointState : Obligations.BusAndStateMachineWriteDisjointState := by
  intro i s b h
  obtain ⟨b', hb', he⟩ := exec_effect i s
  obtain rfl : b = b' := by rw [h] at hb'; exact (Host.Outcome.next.inj hb')
  refine ⟨fun hs => if_pos hs, fun hs => ?_⟩
  have hbusy := he.busy hs
  exact ⟨hbusy, fsmStep_over_bus hbusy⟩

/-! ### The attention setup (R144) -/

theorem phaseEnd_attn {s : State} (b : State) (hs : s.st = .attn) : phaseEnd s b = attnEnd s b := by
  simp only [phaseEnd, hs]

/-- Settles O23: the state machine's step is `attnEnd`. -/
theorem attentionSetupEndsInTheStartByte : Obligations.AttentionSetupEndsInTheStartByte := by
  intro s hq hs ht
  refine stepsTo_of_fsmStep hq ?_
  rw [fsmStep_end _ (by simp [hs]) ht, phaseEnd_attn _ hs, attnEnd_eq]
  rfl

/-! ### The end of a byte (R127, R146) -/

theorem phaseEnd_byteDone {s : State} (b : State) (hx : exchanging s) (hp : s.ph = .hi)
    (hb : s.bidx = 7) : phaseEnd s b = byteDone s b := by
  simp only [phaseEnd_exchanging b hx, exchangeEnd, hp, hb]
  rfl

theorem fsmStep_byteDone {s : State} (b : State) (hx : exchanging s) (hp : s.ph = .hi)
    (hb : s.bidx = 7) (ht : s.tmr = 1) : fsmStep s b = byteDone s b := by
  obtain ⟨hbusy, -⟩ := exchanging_busy hx
  rw [fsmStep_end b hbusy ht, phaseEnd_byteDone b hx hp hb]

theorem byteDone_start {s : State} (b : State) (hs : s.st = .start) :
    byteDone s b = startDone s b := by
  simp only [byteDone, hs]

theorem byteDone_poll {s : State} (b : State) (hs : s.st = .poll) :
    byteDone s b = pollDone s.rx s b := by
  simp only [byteDone, hs]

theorem byteDone_matched {s : State} (b : State) (hs : s.st = .marker) (hm : s.rx = Config.marker) :
    byteDone s b = markerMatch s b := by
  simp only [byteDone, hs, if_pos hm]

theorem byteDone_mismatch {s : State} (b : State) (hs : s.st = .marker)
    (hm : s.rx ≠ Config.marker) : byteDone s b = markerMismatch s b := by
  simp only [byteDone, hs, if_neg hm]

theorem byteDone_frameByte {s : State} (b : State) (hs : s.st = .frame) (hf : s.fidx.val < 5) :
    byteDone s b = frameByteDone s.rx s b := by
  have hf : s.fidx < 5 := hf
  simp only [byteDone, hs, if_pos hf]

theorem byteDone_frameEnd {s : State} (b : State) (hs : s.st = .frame) (hf : s.fidx = 5) :
    byteDone s b = frameDone s.rx s b := by
  have hf : ¬ s.fidx < 5 := by rw [hf]; exact Fin.lt_irrefl 5
  simp only [byteDone, hs, if_neg hf]

/-- Settles O26: the two byte ends are `startDone` and `pollDone`. -/
theorem startAndPollBytesLeadToTheMarkerExchange :
    Obligations.StartAndPollBytesLeadToTheMarkerExchange := by
  intro s hq hp hb ht
  constructor
  · intro hs
    refine stepsTo_of_fsmStep hq ?_
    rw [fsmStep_byteDone _ (.inl hs) hp hb ht, byteDone_start _ hs, startDone_eq]
    rfl
  · intro hs
    refine stepsTo_of_fsmStep hq ?_
    rw [fsmStep_byteDone _ (.inr (.inl hs)) hp hb ht, byteDone_poll _ hs, pollDone_eq]
    rfl

/-- Settles O27: the byte end is `markerMatch` on 0x5A and `markerMismatch` on every other byte. -/
theorem markerByteDecidesBetweenFrameAndRetry :
    Obligations.MarkerByteDecidesBetweenFrameAndRetry := by
  intro s hq hs hp hb ht
  have hx : exchanging s := .inr (.inr (.inl hs))
  constructor
  · intro hm
    refine stepsTo_of_fsmStep hq ?_
    rw [fsmStep_byteDone _ hx hp hb ht, byteDone_matched _ hs hm, markerMatch_eq]
    rfl
  · intro hm
    refine ⟨settleTicks s, settleTicks_toNat s, stepsTo_of_fsmStep hq ?_⟩
    rw [fsmStep_byteDone _ hx hp hb ht, byteDone_mismatch _ hs hm, markerMismatch_eq]
    rfl

theorem fidx_succ_val {k : Fin 6} (h : k.val < 5) : (k + 1).val = k.val + 1 := by
  omega

/-- Storing a frame byte writes its own entry and no other (R153). -/
theorem raw_set_get (raw : Vector Byte 6) (k : Fin 6) (c : Byte) (j : Fin 6) :
    (raw.set k c)[j] = if j = k then c else raw[j] := by
  simp only [Fin.getElem_fin, Vector.getElem_set, Fin.ext_iff, eq_comm]

/-- Settles O28: the byte end is `frameByteDone`. -/
theorem frameByteIsStoredAndTheNextBegins : Obligations.FrameByteIsStoredAndTheNextBegins := by
  intro s hq hs hp hb ht hf
  refine ⟨s.raw.set s.fidx s.rx, s.fidx + 1, fidx_succ_val hf, raw_set_get _ _ _,
    stepsTo_of_fsmStep hq ?_⟩
  rw [fsmStep_byteDone _ (.inr (.inr (.inr hs))) hp hb ht, byteDone_frameByte _ hs hf,
    frameByteDone_eq]
  rfl

theorem raw_set_last (raw : Vector Byte 6) (c : Byte) :
    raw.set 5 c = #v[raw[0], raw[1], raw[2], raw[3], raw[4], c] := by
  refine Vector.ext fun i hi => ?_
  match i, hi with
  | 0, _ | 1, _ | 2, _ | 3, _ | 4, _ => exact Vector.getElem_set_ne _ _ (by omega)
  | 5, _ => exact Vector.getElem_set_self _

/-- Settles O29: the byte end is `frameDone`, whose snapshot is the decode of the completed frame. -/
theorem lastFrameByteCommitsTheSnapshot : Obligations.LastFrameByteCommitsTheSnapshot := by
  intro s hq hs hp hb ht hf
  refine stepsTo_of_fsmStep hq ?_
  rw [fsmStep_byteDone _ (.inr (.inr (.inr hs))) hp hb ht, byteDone_frameEnd _ hs hf, frameDone_eq,
    raw_set_last]
  rfl

/-! ### The end of the settle interval (R160) -/

theorem phaseEnd_again {s : State} (b : State) (hs : s.st = .retry)
    (ha : s.attempts.toNat ≤ s.retryMax.toNat) :
    phaseEnd s b = startAttempt s { b with attempts := s.attempts + 1 } := by
  simp only [phaseEnd, hs, retryEnd, if_pos ha]

theorem phaseEnd_giveUp {s : State} (b : State) (hs : s.st = .retry)
    (ha : s.retryMax.toNat < s.attempts.toNat) :
    phaseEnd s b = complete .handshakeMismatch b := by
  simp only [phaseEnd, hs, retryEnd, if_neg (Nat.not_le.2 ha)]

theorem attempts_succ_toNat {s : State} (ha : s.attempts.toNat ≤ s.retryMax.toNat) :
    (s.attempts + 1).toNat = s.attempts.toNat + 1 := by
  have hr := s.retryMax.isLt
  bv_omega

/-- Settles O30: the step is the start of an attempt where the bound allows one, else the recording of
the mismatch. -/
theorem settleEndRetriesOrRecordsMismatch : Obligations.SettleEndRetriesOrRecordsMismatch := by
  intro s hq hs ht
  have hbusy : s.st ≠ .idle := by simp [hs]
  constructor
  · intro ha
    refine ⟨s.attempts + 1, attempts_succ_toNat ha, stepsTo_of_fsmStep hq ?_⟩
    rw [fsmStep_end _ hbusy ht, phaseEnd_again _ hs ha]
    rfl
  · intro ha
    refine stepsTo_of_fsmStep hq ?_
    rw [fsmStep_end _ hbusy ht, phaseEnd_giveUp _ hs ha]
    rfl

/-! ### The frame capture (R151, R156) -/

/-- The bus moves `st` only to the start of an attempt (R231). -/
theorem busEffect_st {s b : State} (h : BusEffect s b) : b.st = s.st ∨ b.st = .attn := by
  cases h with
  | accept => exact .inr rfl
  | read | nothing | dropped | status | cfgFail | config => exact .inl rfl

/-- The state machine enters FRAME only from MARKER, on 0x5A. -/
theorem fsmEffect_enters_frame {s b f : State} (h : FsmEffect s b f) (hb : b.st ≠ .frame)
    (hs : s.st ≠ .frame) (hf : f.st = .frame) : s.st = .marker ∧ s.rx = 0x5A#8 := by
  cases h with
  | matched h _ _ _ hm => exact ⟨h, hm⟩
  | idle | count | lo | hi => exact absurd hf hb
  | frameByte h | frameEnd h => exact absurd h hs
  | attn | start | poll | mismatch | again | giveUp => cases hf

/-- Settles O43: neither the bus nor a reset enters FRAME, and the state machine only on the marker. -/
theorem frameIsCapturedOnlyAfterTheMarker : Obligations.FrameIsCapturedOnlyAfterTheMarker := by
  intro s t h ht hs
  rw [← after_of_step h] at ht
  obtain ⟨b, hb, ⟨_, f, hf, he⟩ | ⟨_, he⟩⟩ := after_cases s
  · rw [he] at ht
    have hbst : b.st ≠ .frame := by
      rcases busEffect_st hb with h | h <;> rw [h]
      · exact hs
      · decide
    exact fsmEffect_enters_frame hf hbst hs ht
  · rw [he] at ht
    cases ht

/-! ### The completion edge (R162) -/

/-- The edge that completes a poll is the last of the cycles that R162 gives for its result. -/
theorem fsmEffect_completes {s f : State} (h : FsmEffect s s f) (hi : Inv s) (hs : s.st ≠ .idle)
    (hf : f.st = .idle) :
    (f.result = .ok ∨
        (f.result = .handshakeMismatch ∧ f.attempts.toNat = f.retryMax.toNat + 1)) ∧
      pollTicks s + 1 = pollDuration f f.result f.attempts.toNat := by
  obtain ⟨_, _, _, ht, ⟨_, hatt⟩, _, _⟩ := hi
  obtain ⟨hone, hmax⟩ := hatt hs
  cases h with
  | idle h => exact absurd h hs
  | count | lo | hi => exact absurd hf hs
  | frameByte h => rw [show (frameByteDone s.rx s s).st = s.st from rfl, h] at hf; cases hf
  | attn | start | poll | matched | mismatch | again => cases hf
  | frameEnd h h1 hp hb hfi =>
    have hx : exchanging s := .inr (.inr (.inr h))
    have hend := byteTicks_at_end ht hx h1 hp hb
    refine ⟨.inl rfl, ?_⟩
    show pollTicks s + 1 = (s.attempts.toNat - 1) * failedTicks s + 145 * hTicks s
    rw [pollTicks, attemptTicks_of_exchanging hx]
    simp only [byteStart, h, hfi]
    omega
  | giveUp h h1 ha =>
    obtain ⟨-, hpos, hle⟩ := ht hs
    have hlast : s.attempts.toNat = s.retryMax.toNat + 1 := by omega
    refine ⟨.inr ⟨rfl, hlast⟩, ?_⟩
    show pollTicks s + 1 = (s.retryMax.toNat + 1) * failedTicks s
    have hattempt : attemptTicks s + 1 = failedTicks s := by
      simp only [attemptTicks, failedTicks, sTicks, h, if_true] at *
      omega
    rw [pollTicks, hlast, Nat.add_sub_cancel, Nat.add_assoc, hattempt, Nat.succ_mul]

/-- Settles O46: the state machine's part of the edge is one count, or the last. -/
theorem everyEdgeOfAPollIsOneCycleOfItsDuration :
    Obligations.EveryEdgeOfAPollIsOneCycleOfItsDuration := by
  intro s t hi hs hr h
  rw [← after_of_step h]
  by_cases hf : (after s).st = .idle
  · have hout : after s = withOuter (fsmStep s s) (after s) := after_busy hs hr
    have hidle : (fsmStep s s).st = .idle := by rwa [hout] at hf
    have hdone := fsmEffect_completes (fsm_effect s s) hi hs hidle
    rw [hout]
    exact .inr ⟨hidle, hdone⟩
  · exact .inl ⟨hf, after_pollTicks hi hs hr hf⟩

end Sys2Proof.Proofs
end

section
/-! SUPPORT. What the lines carry over a run (42_handshake.md R165, 41_transceiver.md R121): the waveform
of a sequence of line events, composed piece by piece from the timed phases, the bits and the bytes
of a poll. -/

namespace Sys2Proof.Proofs

open Sys2Proof Sys2Proof.Machine Sys2Proof.Laws

/-! ### Sequences of events (R121, R165) -/

@[simp] theorem cycles_hold (n : Nat) : (LineEvent.hold n).cycles = n := rfl

/-- The levels that a sequence of events leaves. -/
def levelsAfter (l : Levels) (es : List LineEvent) : Levels := es.foldl LineEvent.apply l

theorem duration_append (es es' : List LineEvent) :
    duration (es ++ es') = duration es + duration es' := by
  simp [duration]

theorem waveform_append (l : Levels) (es es' : List LineEvent) :
    waveform l (es ++ es') = waveform l es ++ waveform (levelsAfter l es) es' := by
  induction es generalizing l with
  | nil => rfl
  | cons e es ih => simp [waveform, levelsAfter, ih]

theorem range_succ_flatMap (f : Nat → List LineEvent) (n : Nat) :
    (List.range (n + 1)).flatMap f = (List.range n).flatMap f ++ f n := by
  simp [List.range_succ]

theorem duration_flatMap_range {f : Nat → List LineEvent} {d : Nat} (hd : ∀ k, duration (f k) = d)
    (n : Nat) : duration ((List.range n).flatMap f) = d * n := by
  induction n with
  | zero => rfl
  | succ n ih => rw [range_succ_flatMap, duration_append, ih, hd, Nat.mul_succ]

theorem levelsAfter_append (l : Levels) (es es' : List LineEvent) :
    levelsAfter l (es ++ es') = levelsAfter (levelsAfter l es) es' :=
  List.foldl_append

/-- Attention stays over pieces that each leave it. -/
theorem levelsAfter_flatMap_range_att {f : Nat → List LineEvent}
    (hatt : ∀ k l, (levelsAfter l (f k)).att = l.att) (n : Nat) (l : Levels) :
    (levelsAfter l ((List.range n).flatMap f)).att = l.att := by
  induction n with
  | zero => rfl
  | succ n ih => rw [range_succ_flatMap, levelsAfter_append, hatt, ih]

theorem duration_bitEvents (H : Nat) (b : Bool) : duration (bitEvents H b) = 2 * H := by
  simp [duration, bitEvents, LineEvent.cycles]
  omega

/-- A byte takes `16H` cycles (R128). -/
theorem duration_xchgEvents (H : Nat) (b : Byte) : duration (xchgEvents H b) = 16 * H := by
  rw [xchgEvents, duration_flatMap_range (d := 2 * H) fun _ => duration_bitEvents H _]
  omega

/-- A byte leaves its last bit on the command line, and the clock high. -/
theorem levelsAfter_xchgEvents (H : Nat) (b : Byte) (l : Levels) :
    levelsAfter l (xchgEvents H b) = ⟨b.getLsbD 7, true, l.att⟩ := rfl

/-! ### A run that carries a sequence of events -/

/-- The levels of the lines in the next `n` cycles. -/
def linesOver (n : Nat) (s : State) : List Levels :=
  (List.range n).map fun e => levelsOf (runN e s)

theorem linesOver_add (m n : Nat) (s : State) :
    linesOver (m + n) s = linesOver m s ++ linesOver n (runN m s) := by
  simp [linesOver, List.range_add, runN_add]

/-- From `s` a poll runs through the cycles of `es`, in which the lines carry the waveform of `es` that
begins at the levels `l`. -/
structure Carries (l : Levels) (es : List LineEvent) (s : State) : Prop where
  busy : ∀ e < duration es, (runN e s).st ≠ .idle
  lines : linesOver (duration es) s = waveform l es

theorem Carries.append {l : Levels} {es es' : List LineEvent} {s : State} (h : Carries l es s)
    (h' : Carries (levelsAfter l es) es' (runN (duration es) s)) : Carries l (es ++ es') s where
  busy := by
    intro e he
    rw [duration_append] at he
    by_cases hlt : e < duration es
    · exact h.busy e hlt
    · obtain ⟨d, rfl⟩ : ∃ d, e = duration es + d := ⟨e - duration es, by omega⟩
      rw [runN_add]
      exact h'.busy d (by omega)
  lines := by rw [duration_append, linesOver_add, h.lines, h'.lines, waveform_append]

/-- Events that take no cycles need no run. -/
theorem carries_of_no_cycles {l : Levels} {e : LineEvent} {s : State} (he : e.cycles = 0) :
    Carries l [e] s where
  busy := by simp [duration, he]
  lines := by simp [duration, waveform, linesOver, he]

/-- Equal pieces, one after the other, each of which leaves attention as it was. -/
theorem carries_flatMap_range {f : Nat → List LineEvent} {d : Nat} {l : Levels} {s : State}
    (hd : ∀ k, duration (f k) = d) (hatt : ∀ k l, (levelsAfter l (f k)).att = l.att) {n : Nat}
    (h : ∀ k < n, ∀ l' : Levels, l'.att = l.att → Carries l' (f k) (runN (d * k) s)) :
    Carries l ((List.range n).flatMap f) s := by
  induction n with
  | zero => exact ⟨fun _ he => absurd he (Nat.not_lt_zero _), rfl⟩
  | succ n ih =>
    rw [range_succ_flatMap]
    refine (ih fun k hk => h k (Nat.lt_succ_of_lt hk)).append ?_
    rw [duration_flatMap_range hd]
    exact h n (Nat.lt_succ_self n) _ (levelsAfter_flatMap_range_att hatt n l)

/-! ### A timed phase (R113, R123) -/

/-- Inside a phase the lines hold their levels, and the poll runs. -/
theorem runN_in_phase {s : State} (hs : s.st ≠ .idle) (hr : noReset s.tmr.toNat s) {e : Nat}
    (he : e < s.tmr.toNat) : (runN e s).st = s.st ∧ levelsOf (runN e s) = levelsOf s := by
  obtain ⟨n, -, hrun⟩ := run_count e hs (noReset_mono hr he.le) he
  rw [hrun]
  exact ⟨rfl, rfl⟩

/-- A phase begun by the event `e` holds the lines for its cycles. -/
theorem carries_phase {l : Levels} {e : LineEvent} {n : Nat} {s : State} (hs : s.st ≠ .idle)
    (ht : s.tmr.toNat = n) (hr : noReset n s) (he : e.cycles = 0) (hl : e.apply l = levelsOf s) :
    Carries l [e, .hold n] s := by
  subst ht
  have hd : duration [e, .hold s.tmr.toNat] = s.tmr.toNat := by
    simp [duration, he]
  refine ⟨fun i hi => ?busy, ?lines⟩
  case busy =>
    obtain ⟨hst, -⟩ := runN_in_phase hs hr (hd ▸ hi)
    rwa [hst]
  case lines =>
    have hheld : linesOver s.tmr.toNat s = List.replicate s.tmr.toNat (levelsOf s) := by
      rw [List.eq_replicate_iff]
      refine ⟨by simp [linesOver], fun x hx => ?_⟩
      obtain ⟨i, hi, rfl⟩ := List.mem_map.1 hx
      exact (runN_in_phase hs hr (List.mem_range.1 hi)).2
    rw [hd, hheld]
    simp [waveform, he, hl]

/-! ### A byte exchange (R121, R128) -/

theorem runN_keeps_inv (n : Nat) {s : State} (hi : Inv s) : Inv (runN n s) := by
  induction n with
  | zero => exact hi
  | succ n ih => rw [runN_succ_after]; exact after_keeps_inv ih

/-- A byte exchange with the half-period `H` begins at `s` (R124). -/
structure ByteBegins (H : Nat) (s : State) : Prop where
  inv : Inv s
  exch : exchanging s
  half : hTicks s = H
  phase : s.ph = .lo
  bit : s.bidx = 0
  timer : s.tmr.toNat = H

section

variable {H : Nat} {s : State}

theorem ByteBegins.half_ne (h : ByteBegins H s) : s.halfPeriod ≠ 0 := by
  obtain ⟨_, _, _, ht, _⟩ := h.inv
  obtain ⟨hbusy, -⟩ := exchanging_busy h.exch
  exact (ht hbusy).1

/-- The byte on the command line is the one that the state sends (R145). -/
theorem ByteBegins.sent (h : ByteBegins H s) : s.tx = byteSent s.st := by
  obtain ⟨_, _, hcmd, _⟩ := h.inv
  exact (hcmd.1 h.exch).1

theorem ByteBegins.hi_begins (h : ByteBegins H s) (hr : noReset (16 * H) s) {k : Nat} (hk : k < 8) :
    PhaseBegins s .hi k (k + 1) (runN (2 * H * k + H) s) := by
  obtain rfl := h.half
  exact Proofs.hi_begins h.exch h.phase h.bit h.half_ne h.timer hr hk

theorem ByteBegins.lo_begins (h : ByteBegins H s) (hr : noReset (16 * H) s) {k : Nat} (hk : k < 8) :
    PhaseBegins s .lo k k (runN (2 * H * k) s) := by
  obtain rfl := h.half
  cases k with
  | zero => exact phaseBegins_zero h.phase h.bit h.timer
  | succ k =>
    have hhi := h.hi_begins hr (k := k) (by omega)
    exact (hhi.lo_of_hi h.exch h.half_ne (by omega) hr).1

end

/-- In the phase `ph` of bit `k` the command line carries that bit, the clock is high in the HI half, and
attention is low (R50). -/
theorem PhaseBegins.levels {s u : State} {ph : Phase} {k n : Nat} (h : PhaseBegins s ph k n u)
    (hx : exchanging s) (hi : Inv u) :
    levelsOf u = ⟨s.tx.getLsbD k, decide (ph = .hi), false⟩ := by
  obtain ⟨hatt, hclk, hcmd, _⟩ := hi
  have hxu := h.same.keeps_exchanging hx
  obtain ⟨_, _, _, htx, _⟩ := h.same.fields
  have hcmdQ : u.cmdQ = s.tx.getLsbD k := by rw [(hcmd.1 hxu).2, htx, h.bit]
  have hattQ : u.attQ = false := hatt.2 (.inr hxu)
  have hclkQ : u.clkQ = decide (ph = .hi) := by
    cases ph with
    | lo => exact hclk.2 ⟨hxu, h.phase⟩
    | hi => simpa [ClkLine, h.phase] using hclk
  rw [levelsOf, psxCmd, psxClk, psxAtt, hcmdQ, hclkQ, hattQ]

/-- A phase of the byte exchange of `s`, as the event that begins it and its cycles. -/
theorem PhaseBegins.carries {l : Levels} {e : LineEvent} {H : Nat} {s u : State} {ph : Phase}
    {k n : Nat} (h : PhaseBegins s ph k n u) (hs : ByteBegins H s) (hi : Inv u) (hr : noReset H u)
    (he : e.cycles = 0) (hl : e.apply l = ⟨s.tx.getLsbD k, decide (ph = .hi), false⟩) :
    Carries l [e, .hold H] u := by
  obtain ⟨hbusy, -⟩ := exchanging_busy (h.same.keeps_exchanging hs.exch)
  exact carries_phase hbusy (h.timer.trans hs.half) hr he (hl.trans (h.levels hs.exch hi).symm)

section

variable {H : Nat} {s : State}

/-- Bit `k` of a byte: its LO half, then its HI half. -/
theorem ByteBegins.carries_bit (h : ByteBegins H s) (hr : noReset (16 * H) s) {k : Nat} (hk : k < 8)
    {l : Levels} (hl : l.att = false) :
    Carries l (bitEvents H (s.tx.getLsbD k)) (runN (2 * H * k) s) := by
  have hend := bitEnd_le H hk
  have hlo : Carries l [.bitLow (s.tx.getLsbD k), .hold H] (runN (2 * H * k) s) :=
    (h.lo_begins hr hk).carries h (runN_keeps_inv _ h.inv)
      (noReset_run (noReset_mono hr (by omega))) rfl (by rw [LineEvent.apply, hl]; rfl)
  refine hlo.append (es' := [.clkHigh, .hold H]) ?_
  have hd : duration [.bitLow (s.tx.getLsbD k), .hold H] = H := by
    simp [duration, LineEvent.cycles]
  rw [hd, ← runN_add]
  exact (h.hi_begins hr hk).carries h (runN_keeps_inv _ h.inv)
    (noReset_run (noReset_mono hr (by omega))) rfl (by simp [levelsAfter, LineEvent.apply, hl])

/-- A byte exchange carries the events of `XCHG` of the byte that its state sends (R121). -/
theorem ByteBegins.carries (h : ByteBegins H s) (hr : noReset (16 * H) s) {l : Levels}
    (hl : l.att = false) : Carries l (xchgEvents H (byteSent s.st)) s := by
  rw [← h.sent]
  exact carries_flatMap_range (fun _ => duration_bitEvents H _) (fun _ _ => rfl)
    fun k hk l' hl' => h.carries_bit hr hk (hl'.trans hl)

end

/-! ### The byte received (R121, R125) -/

theorem assemble_getLsbD (bits : Nat → Bool) {i : Nat} (hi : i < 8) :
    (assemble bits).getLsbD i = bits i := by
  have hrange : List.range 8 = [0, 1, 2, 3, 4, 5, 6, 7] := rfl
  simp only [assemble, hrange, List.foldl_cons, List.foldl_nil, setBit_getLsbD _ _ _ i hi]
  match i, hi with
  | 0, _ | 1, _ | 2, _ | 3, _ | 4, _ | 5, _ | 6, _ | 7, _ => rfl

/-- The levels of DAT that the byte exchange begun at `s` samples (R128). -/
def sampled (H : Nat) (s : State) (i : Nat) : Bool := lineGet (runN (2 * H * i + H - 1) s)

/-- The last cycle of a byte exchange: the byte is received, and the edge takes the byte's end action
(R127). -/
theorem ByteBegins.last_cycle {H : Nat} {s : State} (h : ByteBegins H s) (hr : noReset (16 * H) s) :
    ∃ v, SameByte s v ∧ v.rx = assemble (sampled H s) ∧
      runN (16 * H) s = withOuter (byteDone v v) (runN (16 * H) s) := by
  have hbegin := h.hi_begins hr (k := 7) (by omega)
  obtain rfl := h.half
  obtain ⟨v, -, hlast, hrun⟩ := hbegin.run h.exch h.half_ne
    (noReset_run (noReset_mono hr (by omega)))
  obtain ⟨hsame, -, hph, hbit, hrx⟩ := hbegin.last_cycle hlast
  have hedge : 2 * hTicks s * 7 + hTicks s + hTicks s = 16 * hTicks s := by omega
  rw [← runN_add, hedge, phaseEnd_byteDone v (hsame.keeps_exchanging h.exch) hph
    (BitVec.eq_of_toNat_eq hbit)] at hrun
  refine ⟨v, hsame, BitVec.eq_of_getLsbD_eq fun i hi => ?_, hrun⟩
  rw [hrx, hbegin.samples i hi, assemble_getLsbD _ hi, sampled]

end Sys2Proof.Proofs
end

section
/-! SUPPORT. The cycle-exact poll against the event-level one (42_handshake.md R165): what the edge makes
of the state at the end of each byte of an attempt, then an attempt, then the whole poll by induction on
the retries left. -/

namespace Sys2Proof.Proofs

open Sys2Proof Sys2Proof.Machine Sys2Proof.Laws

/-! ### The data of a poll -/

/-- What a poll reads and produces: of the state machine's fields, those that an edge inside a phase or a
byte leaves as they are. -/
structure PollData where
  valid : Bool
  result : PollResult
  attempts : BitVec 9
  buttons : BitVec 16
  axes : Word
  ctype : Byte
  halfPeriod : BitVec 16
  settle : BitVec 24
  retryMax : BitVec 8
  dzRadius : Byte
  fidx : Fin 6
  raw : Vector Byte 6

/-- The data of a poll in a state. -/
def dataOf (s : State) : PollData where
  valid := s.valid
  result := s.result
  attempts := s.attempts
  buttons := s.buttons
  axes := s.axes
  ctype := s.ctype
  halfPeriod := s.halfPeriod
  settle := s.settle
  retryMax := s.retryMax
  dzRadius := s.dzRadius
  fidx := s.fidx
  raw := s.raw

theorem SameByte.dataOf_eq {s v : State} (h : SameByte s v) : dataOf v = dataOf s := by
  rw [h]
  rfl

/-- The snapshot that the raw frame `raw` gives, and the result OK (R154). -/
def committed (raw : Vector Byte 6) (d : PollData) : PollData :=
  { d with
    raw := raw, valid := true, result := .ok
    buttons := (decodeFrame raw d.dzRadius).1, axes := (decodeFrame raw d.dzRadius).2 }

/-! ### Levels outside an exchange (R50) -/

theorem levels_of_not_exchanging {s : State} (hi : Inv s) (hx : ¬ exchanging s) :
    levelsOf s = ⟨false, true, decide (s.st ≠ .attn)⟩ := by
  obtain ⟨hclk, hcmd⟩ := clk_cmd_of_not_exchanging hi hx
  obtain ⟨hatt, _⟩ := hi
  have hattQ : s.attQ = decide (s.st ≠ .attn) := by
    by_cases h : s.st = .attn
    · simpa [h] using hatt.2 (.inl h)
    · simpa [AttLine, h, hx] using hatt
  rw [levelsOf, psxCmd, psxClk, psxAtt, hclk, hcmd, hattQ]

/-! ### From byte to byte (R144-R154) -/

/-- The edge that begins a byte: its exchange begins (R124). -/
theorem byteBegins_of_beginByte {H : Nat} {c : Byte} {p b t : State} (hi : Inv t)
    (ht : t = withOuter (beginByte c p b) t) (hx : exchanging b) (hH : hTicks p = H)
    (hb : hTicks b = H) : ByteBegins H t := by
  rw [ht] at hi ⊢
  exact ⟨hi, hx, hb, rfl, rfl, (halfTicks_toNat p).trans hH⟩

section

variable {H : Nat} {s : State}

/-- The edge that ends a byte takes the byte's end action on a state `v`, the byte's last cycle, in which
the byte is received and the data of the poll is that of the byte's beginning (R127). -/
theorem ByteBegins.ends (h : ByteBegins H s) (hr : noReset (16 * H) s) :
    ∃ v, hTicks v = H ∧ v.st = s.st ∧ v.rx = assemble (sampled H s) ∧ dataOf v = dataOf s ∧
      runN (16 * H) s = withOuter (byteDone v v) (runN (16 * H) s) := by
  obtain ⟨v, hsame, hrx, hrun⟩ := h.last_cycle hr
  obtain ⟨hst, -⟩ := hsame.fields
  exact ⟨v, hsame.hTicks_eq.trans h.half, hst, hrx, hsame.dataOf_eq, hrun⟩

/-- The start byte ends: the poll byte begins (R147). -/
theorem ByteBegins.after_start (h : ByteBegins H s) (hr : noReset (16 * H) s) (hs : s.st = .start) :
    ByteBegins H (runN (16 * H) s) ∧ (runN (16 * H) s).st = .poll ∧
      dataOf (runN (16 * H) s) = dataOf s := by
  have hi := runN_keeps_inv (16 * H) h.inv
  obtain ⟨v, hH, hst, -, hdata, hrun⟩ := h.ends hr
  rw [byteDone_start v (hst.trans hs)] at hrun
  refine ⟨byteBegins_of_beginByte hi hrun (.inr (.inl rfl)) hH hH, by rw [hrun]; rfl, ?_⟩
  rw [hrun]
  exact hdata

/-- The poll byte ends: its response is the controller-type byte, and the third byte begins (R150). -/
theorem ByteBegins.after_poll (h : ByteBegins H s) (hr : noReset (16 * H) s) (hs : s.st = .poll) :
    ByteBegins H (runN (16 * H) s) ∧ (runN (16 * H) s).st = .marker ∧
      dataOf (runN (16 * H) s) = { dataOf s with ctype := assemble (sampled H s) } := by
  have hi := runN_keeps_inv (16 * H) h.inv
  obtain ⟨v, hH, hst, hrx, hdata, hrun⟩ := h.ends hr
  rw [byteDone_poll v (hst.trans hs), hrx] at hrun
  refine ⟨byteBegins_of_beginByte hi hrun (.inr (.inr (.inl rfl))) hH hH, by rw [hrun]; rfl, ?_⟩
  rw [hrun, ← hdata]
  rfl

/-- The third byte ends with the marker: the frame capture begins (R152). -/
theorem ByteBegins.after_match (h : ByteBegins H s) (hr : noReset (16 * H) s) (hs : s.st = .marker)
    (hm : assemble (sampled H s) = Config.marker) :
    ByteBegins H (runN (16 * H) s) ∧ (runN (16 * H) s).st = .frame ∧
      dataOf (runN (16 * H) s) = { dataOf s with fidx := 0 } := by
  have hi := runN_keeps_inv (16 * H) h.inv
  obtain ⟨v, hH, hst, hrx, hdata, hrun⟩ := h.ends hr
  rw [byteDone_matched v (hst.trans hs) (hrx.trans hm)] at hrun
  refine ⟨byteBegins_of_beginByte hi hrun (.inr (.inr (.inr rfl))) hH hH, by rw [hrun]; rfl, ?_⟩
  rw [hrun, ← hdata]
  rfl

/-- The third byte ends with another byte: the settle interval begins (R158). -/
theorem ByteBegins.after_mismatch (h : ByteBegins H s) (hr : noReset (16 * H) s)
    (hs : s.st = .marker) (hm : assemble (sampled H s) ≠ Config.marker) :
    (runN (16 * H) s).st = .retry ∧ (runN (16 * H) s).tmr.toNat = max s.settle.toNat 1 ∧
      dataOf (runN (16 * H) s) = dataOf s := by
  obtain ⟨v, -, hst, hrx, hdata, hrun⟩ := h.ends hr
  have hsettle : v.settle = s.settle := congrArg PollData.settle hdata
  rw [byteDone_mismatch v (hst.trans hs) (hrx ▸ hm)] at hrun
  refine ⟨by rw [hrun]; rfl, ?tmr, ?data⟩
  case tmr =>
    rw [hrun, ← hsettle]
    exact settleTicks_toNat v
  case data =>
    rw [hrun]
    exact hdata

/-- A frame byte before the last ends: it is stored and the next begins (R153). -/
theorem ByteBegins.after_frameByte (h : ByteBegins H s) (hr : noReset (16 * H) s)
    (hs : s.st = .frame) (hf : s.fidx.val < 5) :
    ByteBegins H (runN (16 * H) s) ∧ (runN (16 * H) s).st = .frame ∧
      dataOf (runN (16 * H) s) =
        { dataOf s with raw := s.raw.set s.fidx (assemble (sampled H s)), fidx := s.fidx + 1 } := by
  have hi := runN_keeps_inv (16 * H) h.inv
  obtain ⟨v, hH, hst, hrx, hdata, hrun⟩ := h.ends hr
  have hst := hst.trans hs
  have hfi : v.fidx = s.fidx := congrArg PollData.fidx hdata
  rw [byteDone_frameByte v hst (hfi ▸ hf), hrx] at hrun
  refine ⟨byteBegins_of_beginByte hi hrun (.inr (.inr (.inr hst))) hH hH, by rw [hrun]; exact hst, ?_⟩
  rw [hrun]
  exact congrArg (fun d : PollData =>
    { d with raw := d.raw.set d.fidx (assemble (sampled H s)), fidx := d.fidx + 1 }) hdata

/-- The sixth frame byte ends the poll with OK (R154). -/
theorem ByteBegins.after_frameEnd (h : ByteBegins H s) (hr : noReset (16 * H) s)
    (hs : s.st = .frame) (hf : s.fidx = 5) :
    (runN (16 * H) s).st = .idle ∧ dataOf (runN (16 * H) s) =
      committed (s.raw.set 5 (assemble (sampled H s))) (dataOf s) := by
  obtain ⟨v, -, hst, hrx, hdata, hrun⟩ := h.ends hr
  have hfi : v.fidx = s.fidx := congrArg PollData.fidx hdata
  rw [byteDone_frameEnd v (hst.trans hs) (hfi.trans hf), hrx] at hrun
  refine ⟨by rw [hrun]; rfl, ?_⟩
  rw [hrun]
  exact congrArg (fun d : PollData => committed (d.raw.set 5 (assemble (sampled H s))) d)
    hdata

end

/-! ### The bytes of an attempt (R162, R325) -/

/-- The beginning of byte `k` of the attempt begun at `u`. -/
def byteAt (H : Nat) (u : State) (k : Nat) : State := runN (H + 16 * H * k) u

/-- The levels of DAT that the attempt begun at `u` samples in its byte `k`. -/
def attemptBits (H : Nat) (u : State) (k : Nat) : Nat → Bool := sampled H (byteAt H u k)

theorem byteAt_zero (H : Nat) (u : State) : byteAt H u 0 = runN H u := rfl

theorem byteAt_succ (H : Nat) (u : State) (k : Nat) :
    runN (16 * H) (byteAt H u k) = byteAt H u (k + 1) := by
  rw [byteAt, ← runN_add, byteAt, Nat.mul_succ, Nat.add_assoc]

theorem noReset_byteAt {H n : Nat} {u : State} (hr : noReset (H + 16 * H * n) u) {k : Nat}
    (hk : k < n) : noReset (16 * H) (byteAt H u k) := by
  have hmul : 16 * H * (k + 1) ≤ 16 * H * n := Nat.mul_le_mul_left _ hk
  rw [Nat.mul_succ] at hmul
  exact noReset_run (noReset_mono hr (by omega))

/-- An attempt with the half-period `H` begins at `u` (R143). -/
structure AttemptBegins (H : Nat) (u : State) : Prop where
  inv : Inv u
  attn : u.st = .attn
  half : hTicks u = H
  timer : u.tmr.toNat = H

section

variable {H : Nat} {u : State}

/-- The attention setup, which carries the first events of the attempt, ends in the start byte. -/
theorem AttemptBegins.after_setup (h : AttemptBegins H u) (hr : noReset H u) :
    Carries idleLevels [.att false, .hold H] u ∧ ByteBegins H (byteAt H u 0) ∧
      (byteAt H u 0).st = .start ∧ dataOf (byteAt H u 0) = dataOf u := by
  have hbusy : u.st ≠ .idle := by simp [h.attn]
  have hnx : ¬ exchanging u := by simp [exchanging, h.attn]
  obtain ⟨_, _, _, htmr, _⟩ := h.inv
  obtain ⟨-, hpos, -⟩ := htmr hbusy
  have hi := runN_keeps_inv H h.inv
  have hlevels : levelsOf u = ⟨false, true, false⟩ := by
    rw [levels_of_not_exchanging h.inv hnx]
    simp [h.attn]
  refine ⟨carries_phase hbusy h.timer hr rfl hlevels.symm, ?_⟩
  rw [byteAt_zero]
  obtain ⟨v, -, hlast, hrun⟩ := run_phase hbusy hpos (h.timer ▸ hr)
  have hv : v.st = .attn := by rw [hlast]; exact h.attn
  have hH : hTicks v = H := by rw [hlast]; exact h.half
  have hdata : dataOf v = dataOf u := by rw [hlast]; rfl
  rw [h.timer, phaseEnd_attn v hv] at hrun
  refine ⟨byteBegins_of_beginByte hi hrun (.inl rfl) hH hH, by rw [hrun]; rfl, ?_⟩
  rw [hrun]
  exact hdata

/-- An attempt up to its third byte: the lines so far, the controller-type byte stored. -/
theorem AttemptBegins.marker_begins (h : AttemptBegins H u) (hr : noReset (H + 16 * H * 3) u) :
    Carries idleLevels (handshakeEvents H) u ∧ ByteBegins H (byteAt H u 2) ∧
      (byteAt H u 2).st = .marker ∧
      dataOf (byteAt H u 2) = { dataOf u with ctype := assemble (attemptBits H u 1) } := by
  obtain ⟨hsetup, hb0, hst0, hd0⟩ := h.after_setup (noReset_mono hr (by omega))
  have hr0 := noReset_byteAt hr (k := 0) (by omega)
  have hr1 := noReset_byteAt hr (k := 1) (by omega)
  have hr2 := noReset_byteAt hr (k := 2) (by omega)
  obtain ⟨hb1, hst1, hd1⟩ := hb0.after_start hr0 hst0
  rw [byteAt_succ] at hb1 hst1 hd1
  obtain ⟨hb2, hst2, hd2⟩ := hb1.after_poll hr1 hst1
  rw [byteAt_succ] at hb2 hst2 hd2
  refine ⟨hsetup.append ?lines, hb2, hst2, ?data⟩
  case data => rw [hd2, hd1, hd0, attemptBits]
  case lines =>
    have hx0 := hb0.carries hr0 (l := ⟨false, true, false⟩) rfl
    have hx1 := hb1.carries hr1 (l := ⟨false, true, false⟩) rfl
    have hx2 := hb2.carries hr2 (l := ⟨false, true, false⟩) rfl
    rw [hst0] at hx0
    rw [hst1] at hx1
    rw [hst2] at hx2
    have hdur : duration [.att false, .hold H] = H := by simp [duration, LineEvent.cycles]
    rw [hdur, ← byteAt_zero]
    refine hx0.append ?_
    rw [duration_xchgEvents, byteAt_succ]
    refine hx1.append ?_
    rw [duration_xchgEvents, byteAt_succ]
    exact hx2

/-! ### The frame capture (R153, R154) -/

/-- Byte `k` of the frame begins, the bytes before it stored; `d` holds the other data of the poll. -/
structure FrameByteBegins (H : Nat) (u : State) (d : PollData) (k : Nat) (t : State) : Prop where
  begins : ByteBegins H t
  frame : t.st = .frame
  idx : t.fidx.val = k
  stored : ∀ (j : Nat) (hj : j < 6), j < k → t.raw[j] = assemble (attemptBits H u (3 + j))
  data : { dataOf t with fidx := d.fidx, raw := d.raw } = d

theorem FrameByteBegins.next {d : PollData} {k : Nat}
    (h : FrameByteBegins H u d k (byteAt H u (3 + k))) (hk : k < 5)
    (hr : noReset (16 * H) (byteAt H u (3 + k))) :
    FrameByteBegins H u d (k + 1) (byteAt H u (3 + (k + 1))) := by
  have hidx := h.idx
  obtain ⟨hb, hst, hd⟩ := h.begins.after_frameByte hr h.frame (hidx.symm ▸ hk)
  rw [byteAt_succ, Nat.add_assoc] at hb hst hd
  have hfi : (byteAt H u (3 + (k + 1))).fidx = (byteAt H u (3 + k)).fidx + 1 :=
    congrArg PollData.fidx hd
  refine ⟨hb, hst, ?idx, fun j hj hlt => ?stored, ?data⟩
  case idx => rw [hfi, fidx_succ_val (by omega), hidx]
  case stored =>
    refine (congrArg (fun e : PollData => e.raw[j]) hd).trans ?_
    simp only [Vector.getElem_set, hidx]
    split
    · next hjk => rw [← hjk, attemptBits]
    · next hjk => exact h.stored j hj (by omega)
  case data =>
    rw [hd]
    exact h.data

/-- Every byte of the frame begins where R325 puts it. -/
theorem frameByte_begins {d : PollData} (h : FrameByteBegins H u d 0 (byteAt H u 3))
    (hr : noReset (H + 16 * H * 9) u) {k : Nat} (hk : k ≤ 5) :
    FrameByteBegins H u d k (byteAt H u (3 + k)) := by
  induction k with
  | zero => exact h
  | succ k ih => exact (ih (by omega)).next hk (noReset_byteAt hr (by omega))

/-- The six frame bytes carry the frame's events. -/
theorem frame_carries {d : PollData} (h : FrameByteBegins H u d 0 (byteAt H u 3))
    (hr : noReset (H + 16 * H * 9) u) {l : Levels} (hl : l.att = false) :
    Carries l (frameEvents H) (byteAt H u 3) := by
  refine carries_flatMap_range (fun _ => duration_xchgEvents H _) (fun _ _ => rfl)
    fun k hk l' hl' => ?_
  have hframe := frameByte_begins h hr (k := k) (by omega)
  have hx := hframe.begins.carries (noReset_byteAt hr (by omega)) (hl'.trans hl)
  have hat : runN (16 * H * k) (byteAt H u 3) = byteAt H u (3 + k) := by
    rw [byteAt, ← runN_add, byteAt, Nat.mul_add, Nat.add_assoc]
  rw [hframe.frame] at hx
  rw [hat]
  exact hx

theorem envFrame_get (env : Nat → Nat → Bool) {j : Nat} (hj : j < 6) :
    (envFrame env)[j] = assemble (env (3 + j)) := by
  match j, hj with
  | 0, _ | 1, _ | 2, _ | 3, _ | 4, _ | 5, _ => rfl

/-- The sixth byte completes the raw frame that the environment supplied (R69). -/
theorem FrameByteBegins.raw_eq {d : PollData} {t : State} (h : FrameByteBegins H u d 5 t) :
    t.raw.set 5 (assemble (attemptBits H u 8)) = envFrame (attemptBits H u) := by
  refine Vector.ext fun j hj => ?_
  rw [Vector.getElem_set, envFrame_get _ hj]
  split
  · next h5 => rw [← h5]
  · next h5 => exact h.stored j hj (by omega)

/-- The frame's end: the snapshot of the environment's frame, and OK. -/
theorem frame_ends {d : PollData} (h : FrameByteBegins H u d 0 (byteAt H u 3))
    (hr : noReset (H + 16 * H * 9) u) :
    (byteAt H u 9).st = .idle ∧
      dataOf (byteAt H u 9) = committed (envFrame (attemptBits H u)) { d with fidx := 5 } := by
  have h5 := frameByte_begins h hr (Nat.le_refl 5)
  have hfi : (byteAt H u 8).fidx = 5 := Fin.ext h5.idx
  obtain ⟨hst, hd⟩ := h5.begins.after_frameEnd (noReset_byteAt hr (by omega)) h5.frame hfi
  rw [byteAt_succ] at hst hd
  refine ⟨hst, hd.trans ?_⟩
  rw [← h5.raw_eq, ← h5.data, ← hfi]
  rfl

end

end Sys2Proof.Proofs
end

section
/-! SUPPORT. The whole poll (42_handshake.md R161, R162, R165): an attempt that succeeds, an attempt that
fails, and by induction on the retries left the poll of `pollEvents`, with its lines and its cycles. -/

namespace Sys2Proof.Proofs

open Sys2Proof Sys2Proof.Machine Sys2Proof.Laws

/-! ### The events of an attempt (R162) -/

theorem duration_handshakeEvents (H : Nat) : duration (handshakeEvents H) = 49 * H := by
  simp only [handshakeEvents, duration_append, duration_xchgEvents]
  simp [duration, LineEvent.cycles]
  omega

theorem duration_frameEvents (H : Nat) : duration (frameEvents H) = 96 * H := by
  rw [frameEvents, duration_flatMap_range (d := 16 * H) fun _ => duration_xchgEvents H _]
  omega

theorem levelsAfter_handshakeEvents (H : Nat) :
    levelsAfter idleLevels (handshakeEvents H) = ⟨false, true, false⟩ := by
  simp only [handshakeEvents, levelsAfter_append, levelsAfter_xchgEvents]
  rfl

theorem duration_matched (H : Nat) :
    duration (handshakeEvents H ++ (frameEvents H ++ [.att true])) = 145 * H := by
  have hatt : duration [.att true] = 0 := rfl
  rw [duration_append, duration_append, duration_handshakeEvents, duration_frameEvents, hatt]
  omega

theorem duration_mismatch (H S : Nat) :
    duration (handshakeEvents H ++ [.att true, .hold S]) = 49 * H + S := by
  have hsettle : duration [.att true, .hold S] = S := by simp [duration, LineEvent.cycles]
  rw [duration_append, duration_handshakeEvents, hsettle]

theorem levelsAfter_mismatch (H S : Nat) :
    levelsAfter idleLevels (handshakeEvents H ++ [.att true, .hold S]) = idleLevels := by
  rw [levelsAfter_append, levelsAfter_handshakeEvents]
  rfl

/-! ### One attempt -/

section

variable {H : Nat} {u : State}

/-- An attempt whose third byte is the marker: the frame is captured and the poll ends with OK
(R152-R154). -/
theorem AttemptBegins.succeeds (h : AttemptBegins H u) (hr : noReset (145 * H) u)
    (hm : assemble (attemptBits H u 2) = Config.marker) :
    Carries idleLevels (handshakeEvents H ++ (frameEvents H ++ [.att true])) u ∧
      (runN (145 * H) u).st = .idle ∧
      dataOf (runN (145 * H) u) = committed (envFrame (attemptBits H u))
        { dataOf u with ctype := assemble (attemptBits H u 1), fidx := 5 } := by
  have h145 : 145 * H = H + 16 * H * 9 := by omega
  rw [h145] at hr ⊢
  have hr3 : noReset (H + 16 * H * 3) u := noReset_mono hr (by omega)
  obtain ⟨hlines, hb2, hst2, hd2⟩ := h.marker_begins hr3
  obtain ⟨hb3, hst3, hd3⟩ := hb2.after_match (noReset_byteAt hr3 (by omega)) hst2 hm
  rw [byteAt_succ] at hb3 hst3 hd3
  have hfirst : FrameByteBegins H u (dataOf (byteAt H u 3)) 0 (byteAt H u 3) :=
    ⟨hb3, hst3, congrArg (fun d : PollData => d.fidx.val) hd3, fun j _ hj => absurd hj (by omega),
      rfl⟩
  obtain ⟨hidle, hd⟩ := frame_ends hfirst hr
  have h49 : 49 * H = H + 16 * H * 3 := by omega
  refine ⟨hlines.append (Carries.append ?frame (carries_of_no_cycles rfl)), hidle, ?data⟩
  case frame =>
    rw [duration_handshakeEvents, levelsAfter_handshakeEvents, h49]
    exact frame_carries hfirst hr rfl
  case data => exact hd.trans (by rw [hd3, hd2])

/-- The settle interval carries its events, and its last edge takes its end action (R158, R160). -/
theorem settle_ends {S : Nat} {t : State} (hi : Inv t) (hs : t.st = .retry)
    (ht : t.tmr.toNat = S) (hr : noReset S t) :
    Carries ⟨false, true, false⟩ [.att true, .hold S] t ∧
      ∃ v, dataOf v = dataOf t ∧ v.st = .retry ∧
        runN S t = withOuter (phaseEnd v v) (runN S t) := by
  subst ht
  have hbusy : t.st ≠ .idle := by simp [hs]
  have hlevels : levelsOf t = idleLevels := by
    rw [levels_of_not_exchanging hi (by simp [exchanging, hs]), hs]
    rfl
  obtain ⟨_, _, _, htmr, _⟩ := hi
  obtain ⟨-, hpos, -⟩ := htmr hbusy
  refine ⟨carries_phase hbusy rfl hr rfl hlevels.symm, ?_⟩
  obtain ⟨v, -, hlast, hrun⟩ := run_phase hbusy hpos hr
  exact ⟨v, by rw [hlast]; rfl, by rw [hlast]; exact hs, hrun⟩

/-- An attempt whose third byte is not the marker: after the settle interval the next attempt begins,
or the poll ends with HANDSHAKE_MISMATCH (R158, R160). -/
theorem AttemptBegins.fails (h : AttemptBegins H u) (hr : noReset (49 * H + sTicks u) u)
    (hm : assemble (attemptBits H u 2) ≠ Config.marker) :
    Carries idleLevels (handshakeEvents H ++ [.att true, .hold (sTicks u)]) u ∧
      (u.attempts.toNat ≤ u.retryMax.toNat →
        AttemptBegins H (runN (49 * H + sTicks u) u) ∧
        dataOf (runN (49 * H + sTicks u) u) =
          { dataOf u with
            ctype := assemble (attemptBits H u 1), attempts := u.attempts + 1 }) ∧
      (u.retryMax.toNat < u.attempts.toNat →
        (runN (49 * H + sTicks u) u).st = .idle ∧
        dataOf (runN (49 * H + sTicks u) u) =
          { dataOf u with
            ctype := assemble (attemptBits H u 1), result := .handshakeMismatch }) := by
  have h49 : 49 * H = H + 16 * H * 3 := by omega
  have hr3 : noReset (H + 16 * H * 3) u := noReset_mono hr (by omega)
  obtain ⟨hlines, hb2, hst2, hd2⟩ := h.marker_begins hr3
  obtain ⟨hst3, htmr3, hd3⟩ := hb2.after_mismatch (noReset_byteAt hr3 (by omega)) hst2 hm
  rw [byteAt_succ] at hst3 htmr3 hd3
  have hS : (byteAt H u 3).tmr.toNat = sTicks u :=
    htmr3.trans (congrArg (fun d : PollData => max d.settle.toNat 1) hd2)
  have hat : runN (49 * H) u = byteAt H u 3 := by rw [h49]; rfl
  obtain ⟨hsettle, v, hdv, hstv, hrun⟩ := settle_ends (t := byteAt H u 3)
    (runN_keeps_inv _ h.inv) hst3 hS (hat ▸ noReset_run hr)
  have hdata : dataOf v = { dataOf u with ctype := assemble (attemptBits H u 1) } :=
    hdv.trans (hd3.trans hd2)
  have hatt : v.attempts = u.attempts := congrArg PollData.attempts hdata
  have hmax : v.retryMax = u.retryMax := congrArg PollData.retryMax hdata
  have hH : hTicks v = hTicks u := congrArg (fun d : PollData => d.halfPeriod.toNat) hdata
  have hi := runN_keeps_inv (49 * H + sTicks u) h.inv
  rw [← hat, ← runN_add] at hrun
  refine ⟨hlines.append ?_, fun ha => ?again, fun ha => ?giveUp⟩
  · rw [duration_handshakeEvents, levelsAfter_handshakeEvents, hat]
    exact hsettle
  case again =>
    rw [phaseEnd_again v hstv (by rwa [hatt, hmax])] at hrun
    rw [hrun] at hi ⊢
    refine ⟨⟨hi, rfl, hH.trans h.half, ?_⟩, ?_⟩
    · exact (halfTicks_toNat v).trans (hH.trans h.half)
    · exact congrArg (fun d : PollData => { d with attempts := d.attempts + 1 }) hdata
  case giveUp =>
    rw [phaseEnd_giveUp v hstv (by rwa [hatt, hmax])] at hrun
    rw [hrun]
    exact ⟨rfl, congrArg (fun d : PollData => { d with result := .handshakeMismatch }) hdata⟩

end

/-! ### The event-level poll, by its first attempt (R165) -/

section

variable (H S : Nat) (r : Byte) {env : Nat → Nat → Nat → Bool} {a : Nat}

theorem pollEvents_matched (left : Nat) (hm : assemble (env a 2) = Config.marker) :
    pollEvents H S r env left a =
      ⟨.ok, a, assemble (env a 1), some (decodeFrame (envFrame (env a)) r),
        handshakeEvents H ++ (frameEvents H ++ [.att true])⟩ := by
  cases left <;> exact if_pos hm

theorem pollEvents_last (hm : assemble (env a 2) ≠ Config.marker) :
    pollEvents H S r env 0 a =
      ⟨.handshakeMismatch, a, assemble (env a 1), none,
        handshakeEvents H ++ [.att true, .hold S]⟩ :=
  if_neg hm

theorem pollEvents_again (left : Nat) (hm : assemble (env a 2) ≠ Config.marker) :
    pollEvents H S r env (left + 1) a =
      { pollEvents H S r env left (a + 1) with
        events := (handshakeEvents H ++ [.att true, .hold S]) ++
          (pollEvents H S r env left (a + 1)).events } := by
  rw [List.append_assoc]
  exact if_neg hm

/-- The cycles of the event-level poll (R162): OK on one of its attempts, or the mismatch of all. -/
theorem pollEvents_cycles (left : Nat) (a : Nat) :
    ((pollEvents H S r env left a).result = .ok ∧ a ≤ (pollEvents H S r env left a).attempts ∧
        (pollEvents H S r env left a).attempts ≤ a + left ∧
        duration (pollEvents H S r env left a).events =
          ((pollEvents H S r env left a).attempts - a) * (49 * H + S) + 145 * H) ∨
    ((pollEvents H S r env left a).result = .handshakeMismatch ∧
        (pollEvents H S r env left a).attempts = a + left ∧
        duration (pollEvents H S r env left a).events = (left + 1) * (49 * H + S)) := by
  induction left generalizing a with
  | zero =>
    by_cases hm : assemble (env a 2) = Config.marker
    · rw [pollEvents_matched H S r 0 hm]
      exact .inl ⟨rfl, Nat.le_refl a, Nat.le_refl a, by simp [duration_matched]⟩
    · rw [pollEvents_last H S r hm]
      exact .inr ⟨rfl, rfl, by simp only [duration_mismatch]; omega⟩
  | succ left ih =>
    by_cases hm : assemble (env a 2) = Config.marker
    · rw [pollEvents_matched H S r (left + 1) hm]
      exact .inl ⟨rfl, Nat.le_refl a, Nat.le_add_right a _, by simp [duration_matched]⟩
    · rw [pollEvents_again H S r left hm]
      simp only [duration_append (handshakeEvents H ++ [.att true, .hold S]), duration_mismatch]
      rcases ih (a + 1) with ⟨hres, hlow, hhigh, hd⟩ | ⟨hres, hatt, hd⟩
      · refine .inl ⟨hres, by omega, by omega, ?_⟩
        obtain ⟨k, hk⟩ : ∃ k, (pollEvents H S r env left (a + 1)).attempts = a + 1 + k :=
          ⟨_, (Nat.add_sub_cancel' hlow).symm⟩
        have hnext : a + 1 + k - a = k + 1 := by omega
        rw [hk, Nat.add_sub_cancel_left] at hd
        rw [hd, hk, hnext, Nat.succ_mul k]
        omega
      · refine .inr ⟨hres, by omega, ?_⟩
        rw [hd, Nat.succ_mul (left + 1)]
        omega

end

/-! ### The poll (R165) -/

/-- Attempt `a` of a poll begins at `u`, with `left` retries after it; `env` holds the data bits that this
attempt and the later ones sample. -/
structure AttemptOf (H S : Nat) (r : Byte) (env : Nat → Nat → Nat → Bool) (left a : Nat)
    (u : State) : Prop where
  begins : AttemptBegins H u
  settle : sTicks u = S
  radius : u.dzRadius = r
  number : u.attempts.toNat = a
  bound : u.retryMax.toNat + 1 = a + left
  bits : ∀ j, env (a + j) = attemptBits H (runN ((49 * H + S) * j) u)

/-- The poll that ends in `t` has left what the event-level poll `o` produces; without a snapshot that of
`s` stays (R165). -/
structure Agrees (s t : State) (o : PollRun) : Prop where
  idle : t.st = .idle
  result : t.result = o.result
  attempts : t.attempts.toNat = o.attempts
  ctype : t.ctype = o.ctype
  snapshot : ∀ b a, o.snapshot = some (b, a) → t.buttons = b ∧ t.axes = a ∧ t.valid = true
  kept : o.snapshot = none → t.buttons = s.buttons ∧ t.axes = s.axes ∧ t.valid = s.valid

section

variable {H S : Nat} {r : Byte} {env : Nat → Nat → Nat → Bool} {left a : Nat} {u : State}

theorem AttemptOf.bits_here (h : AttemptOf H S r env left a u) : env a = attemptBits H u :=
  h.bits 0

/-- The last cycle of a matched attempt completes the poll as the events say. -/
theorem AttemptOf.matched (h : AttemptOf H S r env left a u)
    (hm : assemble (env a 2) = Config.marker)
    (hr : noReset (duration (pollEvents H S r env left a).events) u) :
    Carries idleLevels (pollEvents H S r env left a).events u ∧
      Agrees u (runN (duration (pollEvents H S r env left a).events) u)
        (pollEvents H S r env left a) := by
  rw [pollEvents_matched H S r left hm] at hr ⊢
  simp only [duration_matched, h.bits_here] at hm hr ⊢
  obtain ⟨hlines, hidle, hd⟩ := h.begins.succeeds hr hm
  refine ⟨hlines, hidle, congrArg PollData.result hd, ?_, congrArg PollData.ctype hd, ?_, nofun⟩
  · exact (congrArg (fun d : PollData => d.attempts.toNat) hd).trans h.number
  · intro b x hsnap
    obtain ⟨rfl, rfl⟩ := Prod.mk.inj (Option.some.inj hsnap)
    rw [← h.radius]
    exact ⟨congrArg PollData.buttons hd, congrArg PollData.axes hd, congrArg PollData.valid hd⟩

/-- The settle interval of the last attempt completes the poll as the events say. -/
theorem AttemptOf.mismatch (h : AttemptOf H S r env 0 a u)
    (hm : assemble (env a 2) ≠ Config.marker)
    (hr : noReset (duration (pollEvents H S r env 0 a).events) u) :
    Carries idleLevels (pollEvents H S r env 0 a).events u ∧
      Agrees u (runN (duration (pollEvents H S r env 0 a).events) u)
        (pollEvents H S r env 0 a) := by
  rw [pollEvents_last H S r hm] at hr ⊢
  have hbound := h.bound
  have hnum := h.number
  simp only [duration_mismatch, h.bits_here, ← h.settle] at hm hr ⊢
  obtain ⟨hlines, -, hend⟩ := h.begins.fails hr hm
  obtain ⟨hidle, hd⟩ := hend (by omega)
  refine ⟨hlines, hidle, congrArg PollData.result hd, ?_, congrArg PollData.ctype hd, nofun, ?_⟩
  · exact (congrArg (fun d : PollData => d.attempts.toNat) hd).trans hnum
  · exact fun _ => ⟨congrArg PollData.buttons hd, congrArg PollData.axes hd,
      congrArg PollData.valid hd⟩

/-- A mismatch with retries left: the next attempt begins after `49H + S` cycles, the snapshot as it was. -/
theorem AttemptOf.again (h : AttemptOf H S r env (left + 1) a u)
    (hm : assemble (env a 2) ≠ Config.marker) (hr : noReset (49 * H + S) u) :
    Carries idleLevels (handshakeEvents H ++ [.att true, .hold S]) u ∧
      AttemptOf H S r env left (a + 1) (runN (49 * H + S) u) ∧
      (runN (49 * H + S) u).buttons = u.buttons ∧ (runN (49 * H + S) u).axes = u.axes ∧
      (runN (49 * H + S) u).valid = u.valid := by
  have hbound := h.bound
  have hnum := h.number
  have hle : u.attempts.toNat ≤ u.retryMax.toNat := by omega
  obtain rfl := h.settle
  rw [h.bits_here] at hm
  obtain ⟨hlines, hnext, -⟩ := h.begins.fails hr hm
  obtain ⟨hbegins, hd⟩ := hnext hle
  have hmax : (runN (49 * H + sTicks u) u).retryMax = u.retryMax := congrArg PollData.retryMax hd
  have hatt : (runN (49 * H + sTicks u) u).attempts = u.attempts + 1 :=
    congrArg PollData.attempts hd
  refine ⟨hlines, ⟨hbegins, ?settle, ?radius, ?number, ?bound, fun j => ?bits⟩,
    congrArg PollData.buttons hd, congrArg PollData.axes hd, congrArg PollData.valid hd⟩
  case settle => exact congrArg (fun d : PollData => max d.settle.toNat 1) hd
  case radius => exact (congrArg PollData.dzRadius hd).trans h.radius
  case number => rw [hatt, attempts_succ_toNat hle, hnum]
  case bound => rw [hmax]; omega
  case bits =>
    have hj : a + 1 + j = a + (j + 1) := by omega
    rw [hj, h.bits, ← runN_add, Nat.mul_succ, Nat.add_comm]

/-- From any of its attempts the poll runs as the event-level poll does: its lines carry the events'
waveform, and at the edge that the events' cycles add up to it leaves what they produce. -/
theorem AttemptOf.agrees (h : AttemptOf H S r env left a u)
    (hr : noReset (duration (pollEvents H S r env left a).events) u) :
    Carries idleLevels (pollEvents H S r env left a).events u ∧
      Agrees u (runN (duration (pollEvents H S r env left a).events) u)
        (pollEvents H S r env left a) := by
  induction left generalizing a u with
  | zero =>
    by_cases hm : assemble (env a 2) = Config.marker
    · exact h.matched hm hr
    · exact h.mismatch hm hr
  | succ left ih =>
    by_cases hm : assemble (env a 2) = Config.marker
    · exact h.matched hm hr
    · rw [pollEvents_again H S r left hm] at hr ⊢
      simp only [duration_append (handshakeEvents H ++ [.att true, .hold S]),
        duration_mismatch] at hr ⊢
      obtain ⟨hlines, hnext, hbuttons, haxes, hvalid⟩ := h.again hm (noReset_mono hr (by omega))
      obtain ⟨hlater, hend⟩ := ih hnext (noReset_run hr)
      rw [runN_add]
      refine ⟨hlines.append ?_, ⟨hend.idle, hend.result, hend.attempts, hend.ctype, hend.snapshot, ?_⟩⟩
      · rw [duration_mismatch, levelsAfter_mismatch]
        exact hlater
      · rw [← hbuttons, ← haxes, ← hvalid]
        exact hend.kept

end

/-! ### An accepted POLL (R231) -/

theorem after_accepted_poll {al : BitVec 2} {hi : BitVec 24} {s : State} (hs : s.st = .idle)
    (hH : s.halfPeriod ≠ 0) (hf : fetch s = some (.poll al hi)) (hr : (ports s).rstN = true) :
    after s = withOuter (acceptPoll s) (after s) := by
  have hcmd : pollCommand s = acceptPoll s := by
    rw [pollCommand, if_neg (not_not.2 hs), if_neg hH]
  have hexec : exec (.poll al hi) s = .next (driveNone (acceptPoll s)) := hcmd ▸ rfl
  have hstep : step s =
      .next (nextCycle (dsyncShift (ports s).dat s (driveNone (acceptPoll s)))) := by
    simp only [step, hf, hexec, clockEdge, hr, fsmStep, hs, if_true]
  rw [after_of_step hstep]
  rfl

/-- The bits that a poll accepted at edge 0 of `s` samples, as `LineGet` gives them at the sampling edges
(R128, R325). -/
def pollBits (s : State) (a k i : Nat) : Bool :=
  lineGet (runN (sampleEdge (hTicks s) (sTicks s) a k i) s)

/-- The event-level poll of a poll accepted at edge 0 of `s`. -/
def acceptedPoll (s : State) : PollRun :=
  pollEvents (hTicks s) (sTicks s) s.dzRadius (pollBits s) s.retryMax.toNat 1

section

variable {al : BitVec 2} {hi : BitVec 24} {s : State}

/-- The first attempt of an accepted poll begins at edge 1 and samples the poll's bits. -/
theorem firstAttempt_begins (hinv : Inv s) (hH : s.halfPeriod ≠ 0)
    (hacc : after s = withOuter (acceptPoll s) (after s)) :
    AttemptOf (hTicks s) (sTicks s) s.dzRadius (pollBits s) s.retryMax.toNat 1 (after s) := by
  have hafter := after_keeps_inv hinv
  have hpos : 1 ≤ hTicks s := halfPeriod_pos hH
  refine ⟨⟨hafter, ?attn, ?half, ?timer⟩, ?settle, ?radius, ?number, ?bound, fun j => ?bits⟩
  case attn | half | settle | radius | number => rw [hacc]; rfl
  case timer => rw [hacc]; exact halfTicks_toNat s
  case bound => rw [hacc, Nat.add_comm]; rfl
  case bits =>
    funext k i
    have hedge : sampleEdge (hTicks s) (sTicks s) (1 + j) k i =
        (49 * hTicks s + sTicks s) * j + (hTicks s + 16 * hTicks s * k +
          (2 * hTicks s * i + hTicks s - 1)) + 1 := by
      rw [sampleEdge, Nat.add_sub_cancel_left, Nat.mul_comm j]
      omega
    rw [pollBits, hedge, runN_succ, runN_add, runN_add]
    rfl

/-- An accepted poll runs as its event-level poll. -/
theorem acceptedPoll_agrees (hinv : Inv s) (hs : s.st = .idle) (hH : s.halfPeriod ≠ 0)
    (hf : fetch s = some (.poll al hi)) (hr : noReset (duration (acceptedPoll s).events + 1) s) :
    Carries idleLevels (acceptedPoll s).events (after s) ∧
      Agrees s (runN (duration (acceptedPoll s).events + 1) s) (acceptedPoll s) := by
  have hacc := after_accepted_poll hs hH hf (noReset_head hr)
  obtain ⟨hlines, hend⟩ := (firstAttempt_begins hinv hH hacc).agrees (noReset_after hr)
  have hsame : (after s).buttons = s.buttons ∧ (after s).axes = s.axes ∧
      (after s).valid = s.valid := by
    rw [hacc]
    exact ⟨rfl, rfl, rfl⟩
  obtain ⟨hbuttons, haxes, hvalid⟩ := hsame
  refine ⟨hlines, hend.idle, hend.result, hend.attempts, hend.ctype, hend.snapshot, ?_⟩
  rw [← hbuttons, ← haxes, ← hvalid]
  exact hend.kept

/-- The poll runs from edge 1 to its completion edge. -/
theorem acceptedPoll_busy (hc : Carries idleLevels (acceptedPoll s).events (after s)) {e : Nat}
    (h1 : 1 ≤ e) (he : e ≤ duration (acceptedPoll s).events) : (runN e s).st ≠ .idle := by
  obtain ⟨d, rfl⟩ : ∃ d, e = d + 1 := ⟨e - 1, by omega⟩
  exact hc.busy d he

end

/-- Settles O59: the poll's first attempt begins at edge 1, and from there it runs as its events do. -/
theorem cycleExactPollAgreesWithTheEventLevelPoll :
    Obligations.CycleExactPollAgreesWithTheEventLevelPoll := by
  intro al hi s hinv hs hH hf env o n hr t
  obtain ⟨hlines, hend⟩ := acceptedPoll_agrees hinv hs hH hf hr
  exact ⟨fun e h1 he => acceptedPoll_busy hlines h1 he, hend.idle, hend.result, hend.attempts,
    hend.ctype, hend.snapshot, hend.kept⟩

/-- Settles O60: the cycles of the poll carry the waveform of its events, and an idle block drives the
idle levels. -/
theorem linesCarryTheEventLevelWaveform : Obligations.LinesCarryTheEventLevelWaveform := by
  intro al hi s hinv hs hH hf env o n hr
  obtain ⟨hlines, hend⟩ := acceptedPoll_agrees hinv hs hH hf hr
  refine ⟨hlines.lines, ?_⟩
  have hidle : (runN (n + 1) s).st = .idle := hend.idle
  rw [levels_of_not_exchanging (runN_keeps_inv (n + 1) hinv) (by simp [exchanging, hidle]), hidle]
  rfl

/-! ### The cycles of a poll (R161, R162) -/

/-- No poll is longer than the longest one (R321). -/
theorem acceptedPoll_le_longestPoll (s : State) :
    duration (acceptedPoll s).events ≤ longestPoll := by
  have hH := s.halfPeriod.isLt
  have hS := s.settle.isLt
  have hr := s.retryMax.isLt
  have hcycles := pollEvents_cycles (hTicks s) (sTicks s) s.dzRadius (env := pollBits s)
    s.retryMax.toNat 1
  rw [← acceptedPoll] at hcycles
  have hok : 255 * (49 * hTicks s + sTicks s) + 145 * hTicks s ≤ longestPoll := by
    simp only [longestPoll, hTicks, sTicks]
    omega
  have hmismatch : 256 * (49 * hTicks s + sTicks s) ≤ longestPoll := by
    simp only [longestPoll, hTicks, sTicks]
    omega
  rcases hcycles with ⟨-, -, hle, hd⟩ | ⟨-, -, hd⟩
  · have hattempts := Nat.mul_le_mul_right (49 * hTicks s + sTicks s)
      (show (acceptedPoll s).attempts - 1 ≤ 255 by omega)
    rw [hd]
    exact (Nat.add_le_add_right hattempts _).trans hok
  · rw [hd]
    exact (Nat.mul_le_mul_right _ (by omega)).trans hmismatch

/-- Settles O47: the poll runs as its events do, whose cycles add up to those of R162. -/
theorem acceptedPollCompletesInTheStatedCycles :
    Obligations.AcceptedPollCompletesInTheStatedCycles := by
  intro al hi s hinv hs hH hf hr
  have hle := acceptedPoll_le_longestPoll s
  obtain ⟨hlines, hend⟩ := acceptedPoll_agrees hinv hs hH hf (noReset_mono hr (by omega))
  refine ⟨duration (acceptedPoll s).events, hle, fun k h1 hk => acceptedPoll_busy hlines h1 hk,
    hend.idle, ?_⟩
  rw [hend.result, hend.attempts]
  rcases pollEvents_cycles (hTicks s) (sTicks s) s.dzRadius (env := pollBits s) s.retryMax.toNat 1
    with ⟨hres, hone, hmax, hd⟩ | ⟨hres, hatt, hd⟩
  · exact .inl ⟨hres, hone, hmax.trans (Nat.add_comm 1 _).le, hd⟩
  · exact .inr ⟨hres, hatt.trans (Nat.add_comm 1 _), hd⟩

end Sys2Proof.Proofs
end

section
/-! SUPPORT. The frame decoder (43_frame_decoder.md): what the corrections do to a bit, the BUTTONS field
as the mask tests of its flags, and the lanes of AXES as signed numbers. -/

namespace Sys2Proof.Proofs

open Sys2Proof Sys2Proof.Machine

/-! ### The corrections, bit by bit (R180, R181) -/

theorem rev8_getLsbD (b : Byte) {i : Nat} (hi : i < 8) :
    (rev8 b).getLsbD i = b.getLsbD (7 - i) := by
  unfold rev8
  match i, hi with
  | 0, _ | 1, _ | 2, _ | 3, _ | 4, _ | 5, _ | 6, _ | 7, _ =>
    simp only [BitVec.getLsbD_append, BitVec.getLsbD_ofBool]
    simp

theorem rev8_rev8 (b : Byte) : rev8 (rev8 b) = b := by
  refine BitVec.eq_of_getLsbD_eq fun i hi => ?_
  rw [rev8_getLsbD _ hi, rev8_getLsbD _ (by omega), show 7 - (7 - i) = i by omega]

/-- The bytes that are their own reversal, found among all 256. -/
theorem rev8_eq_self_iff : ∀ b : Byte, rev8 b = b ↔
    b.toNat ∈ [0x00, 0x18, 0x24, 0x3C, 0x42, 0x5A, 0x66, 0x7E, 0x81, 0x99, 0xA5, 0xBD, 0xC3, 0xDB,
      0xE7, 0xFF] := by decide

/-- Settles O51: two reversals move bit `i` back to its place. -/
theorem bitReversalMovesEveryBitAndIsItsOwnInverse :
    Obligations.BitReversalMovesEveryBitAndIsItsOwnInverse :=
  ⟨fun b _ hi => rev8_getLsbD b hi, rev8_rev8, rev8_eq_self_iff⟩

theorem inv8_getLsbD (b : Byte) {i : Nat} (hi : i < 8) : (inv8 b).getLsbD i = !b.getLsbD i := by
  have hones : (0xFF#8).getLsbD i = true :=
    BitVec.getLsbD_allOnes.trans (decide_eq_true hi)
  rw [inv8, BitVec.getLsbD_xor, hones, Bool.xor_true]

/-! ### The BUTTONS field (R184-R187) -/

/-- A corrected button byte holds the negated wire bits, in reverse order. -/
theorem inv8_rev8_getLsbD (b : Byte) {k : Nat} (hk : k < 8) :
    (inv8 (rev8 b)).getLsbD k = !b.getLsbD (7 - k) := by
  rw [inv8_getLsbD _ hk, rev8_getLsbD _ hk]

theorem decodeFrame_buttons (raw : Vector Byte 6) (r : Byte) :
    (decodeFrame raw r).1 = inv8 (rev8 raw[1]) ++ inv8 (rev8 raw[0]) := rfl

/-- Settles O52: bit `k` is in the lower byte of BUTTONS, bit `8 + k` in the upper. -/
theorem buttonIsPressedWhenItsWireBitIsZero : Obligations.ButtonIsPressedWhenItsWireBitIsZero := by
  intro raw r k hk
  rw [decodeFrame_buttons]
  constructor
  · rw [BitVec.getLsbD_append, if_pos hk, inv8_rev8_getLsbD _ hk]
  · rw [BitVec.getLsbD_append, if_neg (by omega), Nat.add_sub_cancel_left, inv8_rev8_getLsbD _ hk]

theorem button_bit_lt (n : Button) : n.bit < 16 := by cases n <;> decide

theorem button_mask_eq (n : Button) : n.mask = 1#8 <<< (n.bit % 8) := by cases n <;> rfl

theorem button_byteIdx_eq (n : Button) : n.byteIdx.val = n.bit / 8 := by cases n <;> rfl

theorem button_byteIdx_eq_zero_iff (n : Button) : n.byteIdx = 0 ↔ n.bit < 8 := by
  rw [Fin.ext_iff, button_byteIdx_eq, Fin.val_zero]
  omega

/-- The bit of a flag is its place among the sixteen. -/
theorem allButtons_bit (n : Button) : allButtons[n.bit]? = some n := by cases n <;> rfl

theorem button_bit_injective {n m : Button} (h : n.bit = m.bit) : n = m :=
  Option.some.inj (by rw [← allButtons_bit n, h, allButtons_bit])

/-- Testing a byte against the mask of bit `i` reads bit `i`. -/
theorem and_single_bit_ne_zero (x : Byte) {i : Nat} (hi : i < 8) :
    ((x &&& 1#8 <<< i) != 0) = x.getLsbD i := by
  have hbit : (BitVec.twoPow 8 i).getLsbD i = true := by
    rw [BitVec.getLsbD_twoPow, decide_eq_true hi, decide_eq_true rfl, Bool.and_true]
  rw [← BitVec.twoPow_eq, BitVec.and_twoPow]
  cases x.getLsbD i with
  | true =>
    refine bne_iff_ne.mpr fun (h0 : BitVec.twoPow 8 i = 0#8) => ?_
    rw [h0, BitVec.getLsbD_zero] at hbit
    exact Bool.noConfusion hbit
  | false => rfl

/-- The mask test of a flag reads the flag's bit of the two bytes put together. -/
theorem maskTest_eq_getLsbD (n : Button) (d0 d1 : Byte) :
    maskTest n d0 d1 = (d1 ++ d0).getLsbD n.bit := by
  have hlt := button_bit_lt n
  simp only [maskTest, button_mask_eq, button_byteIdx_eq_zero_iff, BitVec.getLsbD_append,
    and_single_bit_ne_zero _ (Nat.mod_lt n.bit (show 0 < 8 by decide))]
  by_cases hlow : n.bit < 8
  · rw [if_pos hlow, if_pos hlow, Nat.mod_eq_of_lt hlow]
  · rw [if_neg hlow, if_neg hlow, show n.bit % 8 = n.bit - 8 by omega]

/-- Settles O53: BUTTONS is the two corrected button bytes put together. -/
theorem eachButtonFlagIsItsOwnMaskTest : Obligations.EachButtonFlagIsItsOwnMaskTest :=
  ⟨fun _ _ _ => (maskTest_eq_getLsbD _ _ _).symm, fun _ _ => button_bit_injective,
    fun n => ⟨button_bit_lt n, button_mask_eq n, button_byteIdx_eq n⟩⟩

/-! ### The AXES lanes (R35, R189) -/

/-- The filtered byte minus 128 lies in [-128, 127], so that storing it in two's complement loses
nothing (R189). -/
theorem axis_toInt (x r : Byte) : (axis x r).toInt = (dz x r).toNat - 128 := by
  have hlt := (dz x r).isLt
  exact BitVec.toInt_ofInt_eq_self (by decide) (by omega) (by omega)

/-- Lane `k` of the AXES word is the stored axis of frame byte `k + 2` (R35). -/
theorem decodeFrame_axes_lane (raw : Vector Byte 6) (r : Byte) (k : Fin 4) :
    (decodeFrame raw r).2.extractLsb' (8 * k.val) 8 = axis (rev8 raw[k.val + 2]) r := by
  obtain ⟨k, hk⟩ := k
  simp only [decodeFrame, frameAxes]
  match k, hk with
  | 0, _ =>
    rw [BitVec.extractLsb'_append_eq_of_add_le (by decide),
      BitVec.extractLsb'_append_eq_of_add_le (by decide)]
    exact BitVec.extractLsb'_append_eq_right
  | 1, _ =>
    rw [BitVec.extractLsb'_append_eq_of_add_le (by decide),
      BitVec.extractLsb'_append_eq_of_add_le (by decide)]
    exact BitVec.extractLsb'_append_eq_left
  | 2, _ =>
    rw [BitVec.extractLsb'_append_eq_of_add_le (by decide)]
    exact BitVec.extractLsb'_append_eq_left
  | 3, _ => exact BitVec.extractLsb'_append_eq_left

/-- Settles O54: each lane is the stored axis of its byte, and a stored axis is a signed byte. -/
theorem axisLaneIsTheFilteredByteMinus128 : Obligations.AxisLaneIsTheFilteredByteMinus128 := by
  intro raw r k
  have hlane : axisOf (decodeFrame raw r).2 k = (axis (rev8 raw[k.val + 2]) r).toInt :=
    congrArg BitVec.toInt (decodeFrame_axes_lane raw r k)
  rw [hlane]
  exact ⟨axis_toInt _ _, BitVec.le_toInt _, Int.le_of_lt_add_one BitVec.toInt_lt⟩

end Sys2Proof.Proofs
end

section
/-! SUPPORT. The dead-zone filter and the host's radius (44_deadzone.md R210-R215): the filter by R210's
test on non-negative integers, and the byte `radius` answers as an integer ceiling. -/

namespace Sys2Proof.Proofs

open Sys2Proof Sys2Proof.Machine

/-! ### The filter (R210-R214) -/

/-- R210's equivalent test on non-negative integers for the open interval `(128 - r, 128 + r)`. -/
def InOpenBand (x r : Byte) : Prop := 128 < x.toNat + r.toNat ∧ x.toNat < 128 + r.toNat

/-- The test of `dz` on signed integers, restated without subtraction. -/
theorem inOpenBand_iff (x r : Byte) : InOpenBand x r ↔
    128 - (r.toNat : Int) < (x.toNat : Int) ∧ (x.toNat : Int) < 128 + (r.toNat : Int) := by
  unfold InOpenBand
  omega

theorem dz_of_inOpenBand {x r : Byte} (h : InOpenBand x r) : dz x r = 128#8 :=
  if_pos ((inOpenBand_iff x r).1 h)

theorem dz_of_not_inOpenBand {x r : Byte} (h : ¬ InOpenBand x r) : dz x r = x :=
  if_neg (mt (inOpenBand_iff x r).2 h)

/-- The centre is kept by every radius, the empty band's included. -/
theorem dz_centre (r : Byte) : dz 128#8 r = 128#8 := by
  by_cases h : InOpenBand 128#8 r
  · exact dz_of_inOpenBand h
  · exact dz_of_not_inOpenBand h

/-- From radius 1 on the centre lies in the band, so the band is all that is mapped to it. -/
theorem dz_eq_centre_iff {r : Byte} (hr : 1 ≤ r.toNat) (x : Byte) :
    dz x r = 128#8 ↔ InOpenBand x r := by
  refine ⟨fun h => ?_, dz_of_inOpenBand⟩
  by_contra hout
  obtain rfl : x = 128#8 := (dz_of_not_inOpenBand hout).symm.trans h
  exact hout ⟨Nat.lt_add_of_pos_right hr, Nat.lt_add_of_pos_right hr⟩

/-- The band of radius 0 is empty, that of radius 1 holds only the centre (R211). -/
theorem dz_of_radius_le_one {r : Byte} (hr : r.toNat ≤ 1) (x : Byte) : dz x r = x := by
  by_cases h : InOpenBand x r
  · obtain ⟨hlow, hhigh⟩ := h
    have hcentre : x = 128#8 := BitVec.eq_of_toNat_eq (show x.toNat = 128 by omega)
    rw [hcentre, dz_centre]
  · exact dz_of_not_inOpenBand h

/-- From radius 129 on the band holds every byte (R214). -/
theorem dz_of_radius_ge {r : Byte} (hr : 129 ≤ r.toNat) (x : Byte) : dz x r = 128#8 :=
  dz_of_inOpenBand ⟨by omega, by have hx := x.isLt; omega⟩

/-- Settles O55: the inputs `129 - r` to `127 + r` are the integers of the open band. -/
theorem deadZoneCentresExactlyTheOpenBand : Obligations.DeadZoneCentresExactlyTheOpenBand := by
  intro x r
  refine ⟨dz_of_inOpenBand, dz_of_not_inOpenBand, fun hr => dz_of_radius_le_one hr x,
    fun hr => dz_of_radius_ge hr x, fun hr _ => ?_⟩
  rw [dz_eq_centre_iff hr, InOpenBand]
  omega

/-- Settles O56: an output is the centre, which is kept, or an input outside the band, which still is
outside it. -/
theorem deadZoneIsIdempotent : Obligations.DeadZoneIsIdempotent := by
  intro x r
  by_cases h : InOpenBand x r
  · rw [dz_of_inOpenBand h, dz_centre]
  · rw [dz_of_not_inOpenBand h, dz_of_not_inOpenBand h]

/-! ### The radius of a fraction (R215) -/

theorem radius_of_fraction {f : Rat} (h : 0 ≤ f ∧ f ≤ 1) :
    radius f = some (BitVec.ofNat 8 ⌈255 * f⌉.toNat) := if_pos h

theorem radius_eq_none_iff (f : Rat) : radius f = none ↔ ¬ (0 ≤ f ∧ f ≤ 1) := by
  refine ⟨fun hnone h => ?_, fun h => if_neg h⟩
  rw [radius_of_fraction h] at hnone
  cases hnone

/-- The ceiling of a fraction of 255 lies in 0..255. -/
theorem ceil_fraction_bounds {f : Rat} (h : 0 ≤ f ∧ f ≤ 1) :
    0 ≤ ⌈255 * f⌉ ∧ ⌈255 * f⌉ ≤ 255 := by
  obtain ⟨hnonneg, hle⟩ := h
  refine ⟨Int.ceil_nonneg (by positivity), Int.ceil_le.2 ?_⟩
  push_cast
  linarith

/-- The ceiling fits in the byte, so that storing it loses nothing. -/
theorem ceil_eq_toNat_of_radius {f : Rat} {r : Byte} (h : radius f = some r) :
    ⌈255 * f⌉ = (r.toNat : Int) := by
  have hf : 0 ≤ f ∧ f ≤ 1 := by
    by_contra hf
    rw [(radius_eq_none_iff f).2 hf] at h
    cases h
  obtain ⟨hnonneg, hle⟩ := ceil_fraction_bounds hf
  rw [radius_of_fraction hf] at h
  cases h
  rw [BitVec.toNat_ofNat, Nat.mod_eq_of_lt (by omega), Int.toNat_of_nonneg hnonneg]

/-- Settles O57: the inequalities characterise the ceiling. -/
theorem radiusIsTheExactCeiling : Obligations.RadiusIsTheExactCeiling := by
  refine fun f => ⟨radius_eq_none_iff f, fun r h => ?_⟩
  rw [← Int.cast_natCast (R := Rat) r.toNat]
  exact Int.ceil_eq_iff.1 (ceil_eq_toNat_of_radius h)

end Sys2Proof.Proofs
end

section
/-! SUPPORT. The host-register family (45_host_registers.md): what each host operation makes of the
pre-edge state, the bus step as one function of the slot and the data, and a POLL presented to a busy
block. -/

namespace Sys2Proof.Proofs

open Sys2Proof Sys2Proof.Machine Sys2Proof.Laws

/-! ### The operations, by the condition they test (R231-R234, R238, R250) -/

theorem pollCommand_busy {s : State} (hs : s.st ≠ .idle) : pollCommand s = setIgn s := if_pos hs

theorem pollCommand_unconfigured {s : State} (hs : s.st = .idle) (hH : s.halfPeriod = 0) :
    pollCommand s = cfgFail s := by
  rw [pollCommand, if_neg (not_not.2 hs), if_pos hH]

theorem pollCommand_accepted {s : State} (hs : s.st = .idle) (hH : s.halfPeriod ≠ 0) :
    pollCommand s = acceptPoll s := by
  rw [pollCommand, if_neg (not_not.2 hs), if_neg hH]

theorem cfgWrite_idle {s : State} (hs : s.st = .idle) (written : State) :
    cfgWrite s written = written := if_neg (not_not.2 hs)

theorem cfgWrite_busy {s : State} (hs : s.st ≠ .idle) (written : State) :
    cfgWrite s written = setIgn s := if_pos hs

/-- Clearing by ones, with the data's bits as conditions. -/
theorem statusW1c_eq (d : Word) (s : State) : statusW1c d s =
    { s with
      done := if d.getLsbD 1 then false else s.done
      ign := if d.getLsbD 3 then false else s.ign } := by
  unfold statusW1c clearDoneReq clearIgnReq
  cases d.getLsbD 1 <;> cases d.getLsbD 3 <;> simp

/-! ### What the operations answer -/

theorem exec_poll (al : BitVec 2) (hi : BitVec 24) (s : State) :
    exec (.poll al hi) s = .next (driveNone (pollCommand s)) := rfl

theorem exec_wrStatus (al : BitVec 2) (d : Word) (s : State) :
    exec (.wrStatus al d) s = .next (driveNone (statusW1c d s)) := rfl

theorem exec_wrHalf (al : BitVec 2) (d : Word) (s : State) :
    exec (.wrHalf al d) s = .next (driveNone (cfgWrite s { s with halfPeriod := halfField d })) := rfl

theorem exec_wrSettle (al : BitVec 2) (d : Word) (s : State) :
    exec (.wrSettle al d) s = .next (driveNone (cfgWrite s { s with settle := settleField d })) := rfl

theorem exec_wrRetry (al : BitVec 2) (d : Word) (s : State) :
    exec (.wrRetry al d) s = .next (driveNone (cfgWrite s { s with retryMax := retryField d })) := rfl

theorem exec_wrDz (al : BitVec 2) (d : Word) (s : State) :
    exec (.wrDz al d) s = .next (driveNone (cfgWrite s { s with dzRadius := dzField d })) := rfl

/-! ### CTRL (R231-R236) -/

/-- Settles O10: a NOP leaves the read port without a value, and nothing else is written. -/
theorem nopChangesNoState : Obligations.NopChangesNoState :=
  ⟨by decide, fun _ _ _ => ⟨none, rfl⟩⟩

/-- Settles O11: the command passes both checks and is `accept_poll()`. -/
theorem pollWhenIdleStartsAnAttempt : Obligations.PollWhenIdleStartsAnAttempt := by
  refine ⟨by decide, fun al hi s hs hH => ⟨none, ?_⟩⟩
  have hconfigured : s.halfPeriod ≠ 0 := fun h0 => by simp [h0] at hH
  rw [exec_poll, pollCommand_accepted hs hconfigured, acceptPoll_eq]
  rfl

/-- Settles O12: the command fails its second check, as it does in the reset state. -/
theorem pollWithZeroHalfPeriodRecordsInvalidConfiguration :
    Obligations.PollWithZeroHalfPeriodRecordsInvalidConfiguration := by
  refine fun al hi => ⟨fun s hs hH => ⟨none, ?_⟩, ?_⟩
  · rw [exec_poll, pollCommand_unconfigured hs hH, cfgFail_eq]
    rfl
  · rw [exec_poll, pollCommand_unconfigured rfl rfl]
    exact ⟨_, rfl, by decide⟩

/-- Settles O13: a reserved code is dropped whatever the state. -/
theorem reservedCommandOnlySetsIgn : Obligations.ReservedCommandOnlySetsIgn :=
  fun _ _ _ _ _ => ⟨none, rfl⟩

/-! ### Reads (R236-R241, R245, R252-R258) -/

/-- Settles O14: each mapped read is the read of its slot. -/
theorem readsReturnTheirRegisterAndWriteNoState :
    Obligations.ReadsReturnTheirRegisterAndWriteNoState := by
  intro al d slot s
  have hread (k : SlotIdx) := exec_decodeRead k al d s
  exact ⟨hread 0, hread 1, hread 2, hread 3, hread 4, hread 5, hread 6, hread 7, hread 8, rfl⟩

/-! ### Writes of STATUS, of read-only registers and of the configuration (R238-R246, R250) -/

/-- Settles O15: the write is `status_w1c()`. -/
theorem statusWriteClearsDoneAndIgnByOnes : Obligations.StatusWriteClearsDoneAndIgnByOnes := by
  refine fun al d s => ⟨none, ?_⟩
  rw [exec_wrStatus, statusW1c_eq]
  rfl

/-- Settles O16: each of the four writes leaves the read port without a value, and nothing else. -/
theorem readOnlyAndReservedWritesAreIgnored : Obligations.ReadOnlyAndReservedWritesAreIgnored :=
  fun _ _ _ _ => ⟨⟨none, rfl⟩, ⟨none, rfl⟩, ⟨none, rfl⟩, ⟨none, rfl⟩⟩

/-- Settles O17: the gate of the four configuration writes is open while idle and closed while busy. -/
theorem configurationWritesStoreWhenIdleAndDropWhenBusy :
    Obligations.ConfigurationWritesStoreWhenIdleAndDropWhenBusy := by
  intro al d s
  simp only [exec_wrHalf, exec_wrSettle, exec_wrRetry, exec_wrDz]
  constructor
  · intro hs
    simp only [cfgWrite_idle hs]
    exact ⟨⟨none, rfl⟩, ⟨none, rfl⟩, ⟨none, rfl⟩, ⟨none, rfl⟩⟩
  · intro hs
    simp only [cfgWrite_busy hs]
    exact ⟨⟨none, rfl⟩, ⟨none, rfl⟩, ⟨none, rfl⟩, ⟨none, rfl⟩⟩

/-! ### The bus step (R230) -/

/-- `write_word(w, D)`: what a write of slot `w` makes of the pre-edge state, beside the read port; the
counterpart of `readWord` (R64, R230). -/
def writeWord (slot : SlotIdx) (d : Word) (s : State) : State :=
  match slot.toNat with
  | 0 =>
      if (cmdOf d).toNat = 0 then s else if (cmdOf d).toNat = 1 then pollCommand s else setIgn s
  | 1 => statusW1c d s
  | 5 => cfgWrite s { s with halfPeriod := halfField d }
  | 6 => cfgWrite s { s with settle := settleField d }
  | 7 => cfgWrite s { s with retryMax := retryField d }
  | 8 => cfgWrite s { s with dzRadius := dzField d }
  | _ => s

/-- A decoded write is `writeWord` of its slot and data. -/
theorem exec_decodeWrite (slot : SlotIdx) (al : BitVec 2) (d : Word) (s : State) :
    exec (decodeWrite slot al d) s = .next (driveNone (writeWord slot d s)) := by
  unfold decodeWrite writeWord
  generalize slot.toNat = n
  match n with
  | 0 => exact exec_decodeCtrlWrite al d s
  | 1 | 2 | 3 | 4 | 5 | 6 | 7 | 8 | _ + 9 => rfl

theorem busStepRule_read {t : BusTxn} (h : t.we = false) (s : State) :
    busStepRule t s = driveRead (readWord (t.addr.extractLsb' 2 6) s) s := if_pos h

/-- The rule's three cases of a POLL are those of `pollCommand` (R231-R233, R280 item 4). -/
theorem driveNone_pollCommand (s : State) : driveNone (pollCommand s) =
    if s.st ≠ .idle then { s with ign := true, rdata := none }
    else if s.halfPeriod = 0 then
      { s with attempts := 0, result := .invalidConfiguration, done := true, rdata := none }
    else
      { s with
        attempts := 1, result := .noResult, done := false
        attQ := false, st := .attn, tmr := s.halfPeriod.zeroExtend 24
        rdata := none } := by
  unfold pollCommand
  split
  · rfl
  · split <;> rfl

/-- The rule's two cases of a configuration write are those of `cfgWrite` (R250). -/
theorem driveNone_cfgWrite (s written : State) : driveNone (cfgWrite s written) =
    if s.st ≠ .idle then { s with ign := true, rdata := none }
    else { written with rdata := none } := by
  unfold cfgWrite
  split <;> rfl

theorem busStepRule_write {t : BusTxn} (h : t.we = true) (s : State) :
    busStepRule t s = driveNone (writeWord (t.addr.extractLsb' 2 6) t.wdata s) := by
  unfold busStepRule writeWord
  generalize (t.addr.extractLsb' 2 6).toNat = n
  rw [if_neg (by simp [h])]
  match n with
  | 0 =>
    have hcode (k : Byte) : t.wdata.extractLsb' 0 8 = k ↔ (cmdOf t.wdata).toNat = k.toNat :=
      BitVec.toNat_inj.symm
    simp only [if_true, hcode, apply_ite driveNone, driveNone_pollCommand]
    rfl
  | 1 => simp only [statusW1c_eq]; rfl
  | 2 | 3 | 4 => rfl
  | 5 | 6 | 7 | 8 =>
    simp [driveNone_cfgWrite, halfField, settleField, retryField, dzField]
  | n + 9 => simp [driveNone]

/-- Settles O9: a read drives its slot's word, and a write is `writeWord`, on both sides. -/
theorem decodedOperationIsTheBusStep : Obligations.DecodedOperationIsTheBusStep := by
  intro t s
  cases h : t.we with
  | false => rw [BusTxn.word, h, decode_htWord_read, exec_decodeRead, busStepRule_read h]
  | true => rw [BusTxn.word, h, decode_htWord_write, exec_decodeWrite, busStepRule_write h]

/-! ### A POLL while busy (R233) -/

/-- The state machine reads none of the environment's record. -/
theorem fsmStep_pre_inputs (s b : State) (l : List PortsIn) :
    fsmStep { s with inputs := l } b = fsmStep s b := rfl

/-- The state machine neither reads nor writes IGN, the read port and the environment's record. -/
theorem fsmStep_keeps_host (p b : State) (i : Bool) (v : Option Word) (l : List PortsIn) :
    fsmStep p { b with ign := i, rdata := v, inputs := l } =
      { fsmStep p b with ign := i, rdata := v, inputs := l } := by
  unfold fsmStep phaseEnd exchangeEnd byteDone retryEnd
  repeat' split
  all_goals rfl

/-- Outside reset, an edge over a dropped write is the edge of the same cycle with no transaction, but
for IGN and the read port (R142, R277). -/
theorem clockEdge_dropped (x : HT41) {q : State} (hr : (ports q).rstN = true) :
    clockEdge (presentWord x q) { presentWord x q with ign := true, rdata := none } =
      { clockEdge q { q with rdata := none } with ign := true, rdata := none } := by
  have hfsm : fsmStep (presentWord x q) { presentWord x q with ign := true, rdata := none } =
      { fsmStep q { q with rdata := none } with
        ign := true, rdata := none, inputs := (presentWord x q).inputs } :=
    (fsmStep_pre_inputs q _ _).trans (fsmStep_keeps_host q { q with rdata := none } _ _ _)
  obtain ⟨hinputs, -⟩ := (fsm_effect q { q with rdata := none }).record
  have hreleased : (ports (presentWord x q)).rstN = true := rfl
  rw [clockEdge, clockEdge, if_pos hr, if_pos hreleased, hfsm]
  simp only [nextCycle, dsyncShift, hinputs]
  rfl

/-- Settles O18: the busy block drops the write, and the state machine reads nothing that it changes. -/
theorem pollWhileBusyOnlySetsIgn : Obligations.PollWhileBusyOnlySetsIgn := by
  intro al hi s dat later hs
  have hexec (u : State) (hu : u.st ≠ .idle) :
      exec (.poll al hi) u = .next { u with ign := true, rdata := none } := by
    rw [exec_poll, pollCommand_busy hu]
    rfl
  refine ⟨⟨none, hexec s hs⟩, none, ?_⟩
  let x := encode (.poll al hi)
  let q : State := { s with inputs := ⟨true, none, dat⟩ :: later }
  have hbus : exec (decode x) (presentWord x q) =
      .next { presentWord x q with ign := true, rdata := none } := by
    rw [encodedOperationDecodesToItself _ rfl]
    exact hexec _ hs
  have hquiet : after q = clockEdge q { q with rdata := none } := after_of_step (step_of_no_bus rfl)
  calc step (presentWord x q)
      = .next (clockEdge (presentWord x q) { presentWord x q with ign := true, rdata := none }) :=
        step_presentWord hbus
    _ = .next { after q with ign := true, rdata := none } := by
        rw [clockEdge_dropped x rfl, ← hquiet]

end Sys2Proof.Proofs
end

section
/-! SUPPORT. The constructor (45_host_registers.md R261): what it fails for, and the writes of a
construction as a sequence of configuration writes, each presented to an idle block. -/

namespace Sys2Proof.Proofs

open Sys2Proof Sys2Proof.Machine Sys2Proof.Laws

/-! ### The host's checks (R215, R261, R275) -/

/-- The writes of the constructor when both checks pass. -/
def configurationWrites (c : SessionConfig) (r : Byte) : List HT41 :=
  [asmWr .half (c.half.zeroExtend 32)] ++
    ((c.settle.map fun v => asmWr .settle (v.zeroExtend 32)).toList ++
      ((c.retry.map fun v => asmWr .retry (v.zeroExtend 32)).toList ++
        [asmWr .dz (r.zeroExtend 32)]))

theorem constructorWrites_of_zero_half {c : SessionConfig} (h : c.half = 0) :
    constructorWrites c = .error .invalidConfiguration := if_pos h

theorem constructorWrites_of_no_radius {c : SessionConfig} (h : radius c.deadzone = none) :
    constructorWrites c = .error .invalidConfiguration := by
  unfold constructorWrites asmSetDz
  rw [h]
  exact ite_self _

theorem constructorWrites_of_radius {c : SessionConfig} (h : c.half ≠ 0) {r : Byte}
    (hr : radius c.deadzone = some r) :
    constructorWrites c = .ok (configurationWrites c r) := by
  unfold constructorWrites asmSetDz
  rw [if_neg h, hr]
  rfl

theorem constructorWrites_error {c : SessionConfig} {e : ProtocolError}
    (h : constructorWrites c = .error e) :
    e = .invalidConfiguration ∧ (c.half = 0 ∨ radius c.deadzone = none) := by
  by_cases hH : c.half = 0
  · rw [constructorWrites_of_zero_half hH] at h
    exact ⟨(Except.error.inj h).symm, .inl hH⟩
  · cases hr : radius c.deadzone with
    | none =>
      rw [constructorWrites_of_no_radius hr] at h
      exact ⟨(Except.error.inj h).symm, .inr rfl⟩
    | some r =>
      rw [constructorWrites_of_radius hH hr] at h
      cases h

theorem constructorWrites_ok {c : SessionConfig} {ws : List HT41} {r : Byte}
    (h : constructorWrites c = .ok ws) (hr : radius c.deadzone = some r) :
    ws = configurationWrites c r := by
  have hH : c.half ≠ 0 := fun h0 => by
    rw [constructorWrites_of_zero_half h0] at h
    cases h
  rw [constructorWrites_of_radius hH hr] at h
  exact (Except.ok.inj h).symm

theorem constructorWrites_error_iff (c : SessionConfig) :
    constructorWrites c = .error .invalidConfiguration ↔
      (c.half = 0 ∨ ¬ (0 ≤ c.deadzone ∧ c.deadzone ≤ 1)) := by
  rw [← radius_eq_none_iff]
  refine ⟨fun h => (constructorWrites_error h).2, ?_⟩
  rintro (hH | hr)
  · exact constructorWrites_of_zero_half hH
  · exact constructorWrites_of_no_radius hr

/-! ### Words presented one after the other (R62) -/

/-- `c` with the ports, the synchroniser and the model's own fields of `u`. -/
def withPorts (c u : State) : State :=
  { c with rdata := u.rdata, dsync := u.dsync, inputs := u.inputs, cycle := u.cycle }

/-- The words `ws`, presented in consecutive cycles, take the block from `c` to `c'`, whatever the ports
and the synchroniser hold. -/
def LeadsTo (ws : List HT41) (c c' : State) : Prop :=
  ∀ s, s = withPorts c s → ∃ t, presentAll ws s = some t ∧ t = withPorts c' t

theorem leadsTo_nil (c : State) : LeadsTo [] c c := fun s hs => ⟨s, rfl, hs⟩

theorem presentAll_append (ws ws' : List HT41) (s : State) :
    presentAll (ws ++ ws') s = (presentAll ws s).bind (presentAll ws') := by
  induction ws generalizing s with
  | nil => rfl
  | cons x xs ih => rw [List.cons_append, presentAll_cons, presentAll_cons, ih]

theorem LeadsTo.append {ws ws' : List HT41} {c c' c'' : State} (h : LeadsTo ws c c')
    (h' : LeadsTo ws' c' c'') : LeadsTo (ws ++ ws') c c'' := by
  intro s hs
  obtain ⟨t, hrun, ht⟩ := h s hs
  obtain ⟨u, hrun', hu⟩ := h' t ht
  exact ⟨u, by rw [presentAll_append, hrun]; exact hrun', hu⟩

/-! ### The writes of the constructor (R250, R261) -/

theorem exec_asmWr (r : RegName) (d : Word) (s : State) :
    exec (decode (asmWr r d)) s = .next (driveNone (writeWord (regSlot r) d s)) := by
  rw [asmWr, BusTxn.word, decode_htWord_write, exec_decodeWrite]
  rfl

/-- A field written zero-extended is taken back whole from the data. -/
theorem extractLsb'_zeroExtend_word {w : Nat} (hw : w ≤ 32) (v : BitVec w) :
    (v.zeroExtend 32 : Word).extractLsb' 0 w = v := by
  rw [← BitVec.setWidth_eq_extractLsb' hw, BitVec.setWidth_setWidth_of_le _ hw, BitVec.setWidth_eq]

section

variable {c : State} (hc : c.st = .idle)

include hc

/-- Presented to an idle block, the write of a configuration register with field update `f` stores the
value written (R250). -/
theorem leadsTo_config {w : Nat} {r : RegName} {f : BitVec w → State → State}
    (hgate : ∀ d s, writeWord (regSlot r) d s = cfgWrite s (f (d.extractLsb' 0 w) s))
    (hports : ∀ v s, f v (withPorts c s) = withPorts (f v c) s) (hw : w ≤ 32) (v : BitVec w) :
    LeadsTo [asmWr r (v.zeroExtend 32)] c (f v c) := by
  intro s hs
  let p := presentWord (asmWr r (v.zeroExtend 32)) s
  have hp : p = withPorts c p :=
    calc p = withPorts s p := rfl
      _ = withPorts (withPorts c s) p := congrArg (fun u => withPorts u p) hs
      _ = withPorts c p := rfl
  have hidle : p.st = .idle := by
    rw [hp]
    exact hc
  have hstored : writeWord (regSlot r) (v.zeroExtend 32) p = withPorts (f v c) p := by
    rw [hgate, extractLsb'_zeroExtend_word hw, cfgWrite_idle hidle, ← hports, ← hp]
  refine ⟨after p, by rw [presentAll_cons, presentAll_nil], ?_⟩
  rw [after_presentWord (exec_asmWr r _ p), fsmStep, if_pos hidle, hstored]
  rfl

theorem leadsTo_half (v : BitVec 16) :
    LeadsTo [asmWr .half (v.zeroExtend 32)] c { c with halfPeriod := v } :=
  leadsTo_config (f := fun v s => { s with halfPeriod := v }) hc
    (fun _ _ => rfl) (fun _ _ => rfl) (by decide) v

theorem leadsTo_settle (o : Option (BitVec 24)) :
    LeadsTo (o.map fun v => asmWr .settle (v.zeroExtend 32)).toList c
      { c with settle := o.getD c.settle } := by
  cases o with
  | none => exact leadsTo_nil c
  | some v =>
    exact leadsTo_config (f := fun v s => { s with settle := v }) hc
      (fun _ _ => rfl) (fun _ _ => rfl) (by decide) v

theorem leadsTo_retry (o : Option (BitVec 8)) :
    LeadsTo (o.map fun v => asmWr .retry (v.zeroExtend 32)).toList c
      { c with retryMax := o.getD c.retryMax } := by
  cases o with
  | none => exact leadsTo_nil c
  | some v =>
    exact leadsTo_config (f := fun v s => { s with retryMax := v }) hc
      (fun _ _ => rfl) (fun _ _ => rfl) (by decide) v

theorem leadsTo_dz (v : Byte) :
    LeadsTo [asmWr .dz (v.zeroExtend 32)] c { c with dzRadius := v } :=
  leadsTo_config (f := fun v s => { s with dzRadius := v }) hc
    (fun _ _ => rfl) (fun _ _ => rfl) (by decide) v

/-- The writes of a construction, from any idle block. -/
theorem leadsTo_configurationWrites (cfg : SessionConfig) (r : Byte) :
    LeadsTo (configurationWrites cfg r) c
      { c with
        halfPeriod := cfg.half, settle := cfg.settle.getD c.settle
        retryMax := cfg.retry.getD c.retryMax, dzRadius := r } := by
  refine (leadsTo_half hc cfg.half).append (.append (leadsTo_settle ?_ cfg.settle)
    (.append (leadsTo_retry ?_ cfg.retry) (leadsTo_dz ?_ r)))
  all_goals exact hc

end

/-! ### The constructor (R261, R300) -/

theorem after_presentReset (s : State) :
    after (presentReset s) = withPorts State.reset (after (presentReset s)) := by
  obtain ⟨b, -, ⟨hr, -⟩ | ⟨-, he⟩⟩ := after_cases (presentReset s)
  · cases hr
  · rw [he]
    rfl

/-- Settles O58: the writes of a construction update their registers one after the other, from the idle
block that they are presented to or from the reset one. -/
theorem constructorWritesConfigureTheBlock : Obligations.ConstructorWritesConfigureTheBlock := by
  refine ⟨fun c => ⟨constructorWrites_error_iff c, fun e h => (constructorWrites_error h).1⟩,
    ?writes, ?failed, ?constructed⟩
  case writes =>
    intro c ws r s hws hr hs
    rw [constructorWrites_ok hws hr]
    exact leadsTo_configurationWrites hs c r s rfl
  case failed =>
    intro c e s he
    exact ⟨after (presentReset s), construct_error he s, after_presentReset s⟩
  case constructed =>
    intro c ws r s hws hr
    obtain ⟨t, hrun, ht⟩ := leadsTo_configurationWrites (c := State.reset) rfl c r
      (after (presentReset s)) (after_presentReset s)
    refine ⟨t, ?_, ht⟩
    rw [construct_ok hws, constructorWrites_ok hws hr, hrun]
    rfl

end Sys2Proof.Proofs
end

section
/-! SUPPORT. Simultaneous events (60_exceptions.md R280): the completion edge against a clear of DONE in
the same cycle, and a POLL or a configuration write in a busy cycle. -/

namespace Sys2Proof.Proofs

open Sys2Proof Sys2Proof.Machine Sys2Proof.Laws

/-! ### What the state machine does where it enters IDLE or ATTN (R143, R272) -/

/-- The state machine enters IDLE only by `complete`, which writes over the DONE that the bus has left
(R280 item 2). -/
theorem fsmEffect_enters_idle {s b f : State} (h : FsmEffect s b f) (hb : b.st ≠ .idle)
    (hf : f.st = .idle) : f.done = true ∧ (f.result = .ok ∨ f.result = .handshakeMismatch) := by
  cases h with
  | frameEnd => exact ⟨rfl, .inl rfl⟩
  | giveUp => exact ⟨rfl, .inr rfl⟩
  | idle | count | lo | hi | frameByte => exact absurd hf hb
  | attn | start | poll | matched | mismatch | again => cases hf

/-- From a state that is not in ATTN the state machine enters it only out of RETRY (R160). -/
theorem fsmEffect_enters_attn {s b f : State} (h : FsmEffect s b f) (hb : b.st ≠ .attn)
    (hf : f.st = .attn) : s.st = .retry := by
  cases h with
  | again hs => exact hs
  | idle | count | lo | hi | frameByte => exact absurd hf hb
  | attn | start | poll | matched | mismatch | frameEnd | giveUp => cases hf

/-! ### The completion edge against the bus (R280 item 2) -/

/-- While a poll runs the bus leaves `st` alone. -/
theorem busEffect_busy_st {s b : State} (h : BusEffect s b) (hs : s.st ≠ .idle) : b.st = s.st := by
  rw [h.busy hs]

/-- Settles O35: the bus leaves the poll running, and the state machine's `complete` comes after it. -/
theorem completionSetsDoneOverAnyClear : Obligations.CompletionSetsDoneOverAnyClear := by
  intro s t hr hs h ht
  obtain ⟨b, f, hb, hf, he⟩ := after_running hr
  rw [after_of_step h] at he
  subst he
  have hbusy : b.st ≠ .idle := busEffect_busy_st hb hs ▸ hs
  have hcomplete : f.done = true ∧ (f.result = .ok ∨ f.result = .handshakeMismatch) :=
    fsmEffect_enters_idle hf hbusy ht
  exact hcomplete

/-! ### Dropped commands (R280 items 3 and 5) -/

/-- The step over a presented operation, outside reset. -/
theorem step_of_fetch {i : Instr} {s b : State} (hr : (ports s).rstN = true)
    (hf : fetch s = some i) (hb : exec i s = .next b) :
    step s = .next (nextCycle (dsyncShift (ports s).dat s (fsmStep s b))) := by
  simp only [step, hf, hb, clockEdge, hr, if_true]

/-- A busy block drops a POLL (R233) and a configuration write (R250). -/
theorem exec_dropped {al : BitVec 2} {hi : BitVec 24} {d : Word} {i : Instr} {s : State}
    (hcmd : i = .poll al hi ∨ i = .wrHalf al d ∨ i = .wrSettle al d ∨ i = .wrRetry al d ∨
      i = .wrDz al d) (hs : s.st ≠ .idle) : exec i s = .next (driveNone (setIgn s)) := by
  rcases hcmd with rfl | rfl | rfl | rfl | rfl
  · rw [exec_poll, pollCommand_busy hs]
  · rw [exec_wrHalf, cfgWrite_busy hs]
  · rw [exec_wrSettle, cfgWrite_busy hs]
  · rw [exec_wrRetry, cfgWrite_busy hs]
  · rw [exec_wrDz, cfgWrite_busy hs]

/-- Settles O36: the bus's whole effect is IGN, which the state machine keeps whatever edge it takes. -/
theorem busyCommandsAreDroppedAtTheCompletionEdgeToo :
    Obligations.BusyCommandsAreDroppedAtTheCompletionEdgeToo := by
  intro al hi d i s t hcmd hr hs hfetch h
  obtain ⟨hhalf, hsettle, hretry, hdz⟩ := configurationIsConstantDuringAPoll s t hr hs h
  have hedge := step_of_fetch hr hfetch (exec_dropped hcmd hs)
  rw [h] at hedge
  obtain rfl := Host.Outcome.next.inj hedge
  have hf : FsmEffect s (driveNone (setIgn s)) _ := fsm_effect s _
  obtain ⟨_, _, hign, _⟩ := hf.record
  refine ⟨hign, hhalf, hsettle, hretry, hdz, fun hattn => ?_⟩
  by_cases hs' : s.st = .attn
  · exact .inl hs'
  · exact .inr (fsmEffect_enters_attn hf hs' hattn)

end Sys2Proof.Proofs
end

section
/-! SUPPORT. Reset and hazards (70_reset_and_hazards.md): the reset edge over everything else, a read
in the cycle after a write, and a running poll under two streams of host traffic. -/

namespace Sys2Proof.Proofs

open Sys2Proof Sys2Proof.Machine Sys2Proof.Laws

/-! ### The read port after an edge (R61) -/

theorem after_of_fetch {i : Instr} {s b : State} (hf : fetch s = some i) (hb : exec i s = .next b) :
    after s = clockEdge s b :=
  after_of_step (by simp only [step, hf, hb])

/-- No edge, a reset's neither, takes from the read port what the bus has put there. -/
theorem clockEdge_rdata (s b : State) : (clockEdge s b).rdata = b.rdata := by
  unfold clockEdge
  split
  · obtain ⟨_, _, _, hrdata⟩ := (fsm_effect s b).record
    exact hrdata
  · rfl

theorem after_rdata {i : Instr} {s b : State} (hf : fetch s = some i) (hb : exec i s = .next b) :
    (after s).rdata = b.rdata := by
  rw [after_of_fetch hf hb, clockEdge_rdata]

/-! ### The reset edge (R300) -/

/-- Of the state before a reset edge only the synchroniser's depth and the model's own fields are left. -/
theorem after_reset {s : State} (hr : (ports s).rstN = false) : after s =
    { State.reset with
      dsync := s.dsync.idle, rdata := (after s).rdata
      inputs := s.inputs.tail, cycle := s.cycle + 1 } := by
  obtain ⟨b, hb, ⟨h1, _⟩ | ⟨_, he⟩⟩ := after_cases s
  · rw [hr] at h1
    cases h1
  · obtain ⟨hinputs, hcycle, hdsync⟩ := hb.record
    rw [he, ← hinputs, ← hcycle, ← hdsync]
    rfl

theorem level_of_mem_stages_idle {c : SyncChain} {level : Bool} (h : level ∈ c.idle.stages) :
    level = true := by
  rcases List.mem_cons.1 h with h | h
  · exact h
  · obtain ⟨_, _, rfl⟩ := List.mem_map.1 h
    rfl

/-- Settles O33: the reset is taken over whatever the bus made of the state, but for the read port. -/
theorem resetEdgeOverridesEverything : Obligations.ResetEdgeOverridesEverything := by
  intro s hr
  have hreset := after_reset hr
  refine ⟨after s, step_after s, ?block, ?chain, ?read⟩
  case block =>
    rw [hreset]
  case chain =>
    rw [hreset]
    exact fun _ => level_of_mem_stages_idle
  case read =>
    intro i hf
    obtain ⟨b, hb, -⟩ := exec_effect i s
    exact ⟨b, hb, after_rdata hf hb⟩

/-! ### A read in the cycle after a write (R318) -/

/-- The second of two cycles reads the state that the first has left. -/
theorem runN_two_rdata {i : Instr} {s : State} {v : Word} (hf : fetch (after s) = some i)
    (hi : exec i (after s) = .next (driveRead v (after s))) : (runN 2 s).rdata = some v :=
  after_rdata hf hi

/-- Outside reset, the edge of an idle block stores what a configuration write asks for (R250). -/
theorem after_config_write {i : Instr} {s written : State} (hs : s.st = .idle)
    (hr : (ports s).rstN = true) (hf : fetch s = some i)
    (hb : exec i s = .next (driveNone (cfgWrite s written))) :
    after s = nextCycle (dsyncShift (ports s).dat s (driveNone written)) := by
  rw [after_of_step (step_of_fetch hr hf hb), fsmStep, if_pos hs, cfgWrite_idle hs]

theorem busy_after_accepted_poll {al : BitVec 2} {hi : BitVec 24} {s : State} (hs : s.st = .idle)
    (hH : s.halfPeriod ≠ 0) (hf : fetch s = some (.poll al hi)) (hr : (ports s).rstN = true) :
    busy (after s) = true := by
  rw [after_accepted_poll hs hH hf hr]
  rfl

/-- Settles O21: the write is in the state after its edge, and the read returns that state's register. -/
theorem writeIsSeenByTheNextCyclesRead : Obligations.WriteIsSeenByTheNextCyclesRead := by
  intro al al' d d' hi s hs hnr
  have hr : (ports s).rstN = true := noReset_head hnr
  refine ⟨?half, ?settle, ?retry, ?dz, ?poll⟩
  case half =>
    intro hw hf
    rw [runN_two_rdata hf rfl, after_config_write hs hr hw (exec_wrHalf al d s)]
    rfl
  case settle =>
    intro hw hf
    rw [runN_two_rdata hf rfl, after_config_write hs hr hw (exec_wrSettle al d s)]
    rfl
  case retry =>
    intro hw hf
    rw [runN_two_rdata hf rfl, after_config_write hs hr hw (exec_wrRetry al d s)]
    rfl
  case dz =>
    intro hw hf
    rw [runN_two_rdata hf rfl, after_config_write hs hr hw (exec_wrDz al d s)]
    rfl
  case poll =>
    intro hw hH hf
    refine ⟨statusWord (after s), runN_two_rdata hf rfl, ?_⟩
    rw [statusWord_busy, busy_after_accepted_poll hs hH hw hr]

/-! ### A running poll under two streams of host traffic (R319) -/

/-- The levels of a cycle's ports that the host does not drive (R110). -/
def otherLevels (p : PortsIn) : Bool × Bool := (p.rstN, p.dat)

/-- `u` with what host traffic reaches while a poll runs taken from `v`: DONE, IGN, the read port and the
host's own record. -/
def withHost (u v : State) : State :=
  { u with done := v.done, ign := v.ign, rdata := v.rdata, inputs := v.inputs }

/-- Two states apart only by what the host has presented, and will present. -/
structure DifferInTraffic (u v : State) : Prop where
  same : v = withHost u v
  levels : u.inputs.map otherLevels = v.inputs.map otherLevels

theorem DifferInTraffic.fields {u v : State} (h : DifferInTraffic u v) :
    v.st = u.st ∧ v.dsync = u.dsync ∧ v.cycle = u.cycle := by
  rw [h.same]
  exact ⟨rfl, rfl, rfl⟩

/-- Both states take the same reset and the same level of the data line at their next edge. -/
theorem DifferInTraffic.ports_eq {u v : State} (h : DifferInTraffic u v) :
    (ports v).rstN = (ports u).rstN ∧ (ports v).dat = (ports u).dat := by
  obtain ⟨_, _, hcycle⟩ := h.fields
  have hlevels := h.levels
  unfold ports
  cases hu : u.inputs with
  | nil =>
    have hv : v.inputs = [] := by simpa [hu] using hlevels.symm
    simp [hv, hcycle]
  | cons p ps =>
    cases hv : v.inputs with
    | nil => simp [hu, hv] at hlevels
    | cons q qs =>
      rw [hu, hv] at hlevels
      obtain ⟨hpq, -⟩ := List.cons.inj hlevels
      obtain ⟨hrst, hdat⟩ := Prod.mk.inj hpq
      exact ⟨hrst.symm, hdat.symm⟩

/-- The state machine's step reads nothing in which the two states differ. -/
theorem fsmStep_withHost (u v : State) :
    withOuter (fsmStep (withHost u v) (withHost u v)) u = withOuter (fsmStep u u) u := by
  have hkept : fsmStep u (withHost u v) = { fsmStep u { u with done := v.done } with
      ign := v.ign, rdata := v.rdata, inputs := v.inputs } :=
    fsmStep_keeps_host u { u with done := v.done } v.ign v.rdata v.inputs
  calc withOuter (fsmStep (withHost u v) (withHost u v)) u
      = withOuter (fsmStep u (withHost u v)) u := rfl
    _ = withOuter (fsmStep u { u with done := v.done }) u := by rw [hkept]; rfl
    _ = withOuter (fsmStep u u) u := fsmStep_outer u _ rfl

/-- Outside reset, an edge of a running poll makes the same of both states. -/
theorem DifferInTraffic.after_poll_edge {u v : State} (h : DifferInTraffic u v) (hs : u.st ≠ .idle)
    (hr : (ports u).rstN = true) : after v = withHost (after u) (after v) := by
  obtain ⟨hrst, hdat⟩ := h.ports_eq
  obtain ⟨hst, hchain, hcount⟩ := h.fields
  have hrv : (ports v).rstN = true := hrst.trans hr
  have hfsm : withOuter (fsmStep v v) u = withOuter (fsmStep u u) u := by
    rw [h.same]
    exact fsmStep_withHost u v
  have hu : after u = withOuter (fsmStep u u) (after u) := after_busy hs hr
  have hv : after v = withOuter (fsmStep v v) (after v) := after_busy (hst ▸ hs) hrv
  have hdsync : (after v).dsync = (after u).dsync := by
    rw [after_dsync hr, after_dsync hrv, hchain, hdat]
  have hcycle : (after v).cycle = (after u).cycle := by
    obtain ⟨_, hcu⟩ := after_record u
    obtain ⟨_, hcv⟩ := after_record v
    rw [hcu, hcv, hcount]
  calc after v
      = withOuter (withOuter (fsmStep v v) u) (after v) := hv
    _ = withOuter (withOuter (fsmStep u u) (after u)) (after v) := by rw [hfsm]; rfl
    _ = withOuter (after u) (after v) := by rw [← hu]
    _ = withHost (after u) (after v) := by rw [withOuter, hdsync, hcycle]; rfl

/-- A reset edge makes the same of both states. -/
theorem DifferInTraffic.after_reset_edge {u v : State} (h : DifferInTraffic u v)
    (hr : (ports u).rstN = false) : after v = withHost (after u) (after v) := by
  obtain ⟨hrst, -⟩ := h.ports_eq
  obtain ⟨-, hchain, hcount⟩ := h.fields
  rw [after_reset hr, after_reset (hrst.trans hr), hchain, hcount]
  rfl

/-- An edge of a running poll leaves the two states apart in nothing more (R142, R280 item 7). -/
theorem DifferInTraffic.edge {u v : State} (h : DifferInTraffic u v) (hs : u.st ≠ .idle) :
    DifferInTraffic (after u) (after v) where
  same := by
    cases hr : (ports u).rstN with
    | true => exact h.after_poll_edge hs hr
    | false => exact h.after_reset_edge hr
  levels := by
    obtain ⟨hu, -⟩ := after_record u
    obtain ⟨hv, -⟩ := after_record v
    rw [hu, hv, List.map_tail, List.map_tail, h.levels]

theorem DifferInTraffic.run {u v : State} (h : DifferInTraffic u v) {n : Nat}
    (hs : ∀ k < n, (runN k u).st ≠ .idle) : DifferInTraffic (runN n u) (runN n v) := by
  induction n with
  | zero => exact h
  | succ n ih =>
    have hn : DifferInTraffic (runN n u) (runN n v) := ih fun k hk => hs k (Nat.lt_succ_of_lt hk)
    rw [runN_succ_after, runN_succ_after]
    exact hn.edge (hs n (Nat.lt_succ_self n))

/-- Settles O37: by induction on the edges, each of which keeps the two runs apart in the host's fields
alone. -/
theorem hostTrafficCannotDisturbARunningPoll : Obligations.HostTrafficCannotDisturbARunningPoll := by
  intro s l₁ l₂ n hl hs
  have hstart : DifferInTraffic { s with inputs := l₁ } { s with inputs := l₂ } := ⟨rfl, hl⟩
  exact (hstart.run hs).same

end Sys2Proof.Proofs
end
